-- ==== Sys2Proof/Word.lean ====
section
/-! DEFINITION. The widths of the block (00_scope.md §4, §5) and the records its tables and
formatters are written in: operand shapes, operands, templates (10_state.md R26, R27). -/

namespace Sys2Proof

/-- `u8`: a byte, a half of a register pair, one memory cell. -/
abbrev Byte := BitVec 8

/-- `u16`: a register pair, an address of the read port. -/
abbrev Word := BitVec 16

/-- `CYCLE_WIDTH` = 64 (00_scope.md §4): the cycle count a trace call is given (R307). -/
abbrev Cycles := BitVec 64

/-- The operand shape tags of R26 and R27. -/
inductive Shape where
  | none
  | imm8
  | imm16
  | addr16
  | rel8
deriving DecidableEq, Repr

/-- An operand value together with the shape it was read for (the glossary's "decoded instruction":
a template plus, when its shape is not None, the operand value). A `SignedRelative8` value is an `i8`,
held as the integer it denotes (R144). -/
inductive Operand where
  | none
  | imm8 (v : Byte)
  | imm16 (v : Word)
  | addr16 (a : Word)
  | rel8 (d : Int)
deriving DecidableEq, Repr

/-- The shape an operand value belongs to. -/
def Operand.shape : Operand → Shape
  | .none => .none
  | .imm8 _ => .imm8
  | .imm16 _ => .imm16
  | .addr16 _ => .addr16
  | .rel8 _ => .rel8

/-- An instruction template: "an immutable record of a display text" and "an operand shape tag" (R26). -/
structure Template where
  text  : String
  shape : Shape
deriving DecidableEq, Repr

end Sys2Proof
end

