-- ==== Sys2Proof/Config.lean ====
section
/-! DEFINITION. What the spec leaves to the implementation, the platform and the environment: the open
parameters `BC_RESET`, `GUTTER` and `FATAL_EXIT_STATUS`, the I/O addresses of the trace, and the read
oracle of the memory bus (00_scope.md §4; 92_eei_decisions.md D3, D17, D22, D25; 20_memory.md R64). The
constants without a body are free: no proof can see their value. -/

namespace Sys2Proof

/-- `BC_RESET` (U1, D3): the value BC takes at construction. DESIGN CHOICE, assumption 1. -/
opaque Config.bcReset : Word

/-- The string an implementation fixed for the gutter (U7, D17). -/
opaque Config.gutterChoice : String

/-- The exit status an implementation fixed for `reportFatal` (U6, D25). -/
opaque Config.fatalExitChoice : Int

/-- The memory bus's read oracle (R64): "a function from the history of reads and the address to a byte,
under no law but totality". The list is the history, oldest read first. Assumption 5. -/
opaque Config.busByte : List Word → Word → Byte

/-- `GUTTER`: the implementation's string with every newline left out, so that it ranges over exactly the
strings R312 allows a gutter to be ("the line holds exactly one" newline). Assumption 2. -/
def Config.gutter : String :=
  String.ofList (Config.gutterChoice.toList.filter (fun c => c ≠ '\n'))

/-- `FATAL_EXIT_STATUS`: any non-zero integer (R405, D25). Assumption 3. -/
def Config.fatalExitStatus : Int :=
  if Config.fatalExitChoice = 0 then 1 else Config.fatalExitChoice

/-- The parameters a block was built with. They are fixed for one machine. Held as plain data beside the
state so that every claim is a claim for every value of them. Assumption 4. -/
structure Params where
  /-- `BC_RESET` (D3). -/
  bcReset         : Word
  /-- `GUTTER` (D17). -/
  gutter          : String
  /-- `JOYP_ADDR` (D22). -/
  joypAddr        : Word
  /-- `TIMER_ADDRS`, in list order (D22). -/
  timerAddrs      : List Word
  /-- `FATAL_EXIT_STATUS` (D25): unused by the block. -/
  fatalExitStatus : Int
deriving DecidableEq, Repr

/-- The legal parameters: a gutter that holds no newline (R312) and a non-zero exit status (R405). -/
def Params.wf (p : Params) : Bool :=
  p.gutter.toList.all (fun c => c ≠ '\n') && p.fatalExitStatus ≠ 0

/-- The parameters with the I/O addresses at their defaults (00_scope.md §4, 93 G6). Assumption 6. -/
def Params.default : Params where
  bcReset := Config.bcReset
  gutter := Config.gutter
  joypAddr := 0xFF00
  timerAddrs := [0xFF04, 0xFF05, 0xFF06, 0xFF07]
  fatalExitStatus := Config.fatalExitStatus

end Sys2Proof
end

