-- ==== Sys2Proof/Syntax.lean ====
section
/-! DEFINITION. The instructions: one constructor per row of spec/opcode_table.json, the 256 entries of the
primary table (R1000 to R1255) and the 256 of the secondary table (R2000 to R2255). A constructor with an
argument holds the operand value its row's shape reads (R27): `d8` and `a8` a `u8`, `d16` and `a16` a `u16`,
`r8` an `i8` as an integer. The eleven undefined rows and the escape marker stand after the other primary
rows. `At` in a name stands for the parentheses of a memory operand of the text. -/

namespace Sys2Proof

inductive Instr where
  /-- R1000: `NOP` (00). -/
  | nop
  /-- R1001: `LD BC, d16` (01). -/
  | ldBcD16 (v : Word)
  /-- R1002: `LD (BC), A` (02). -/
  | ldAtBcA
  /-- R1003: `INC BC` (03). -/
  | incBc
  /-- R1004: `INC B` (04). -/
  | incB
  /-- R1005: `DEC B` (05). -/
  | decB
  /-- R1006: `LD B, d8` (06). -/
  | ldBD8 (v : Byte)
  /-- R1007: `RLCA` (07). -/
  | rlca
  /-- R1008: `LD (a16), SP` (08). -/
  | ldAtA16Sp (a : Word)
  /-- R1009: `ADD HL, BC` (09). -/
  | addHlBc
  /-- R1010: `LD A, (BC)` (0A). -/
  | ldAAtBc
  /-- R1011: `DEC BC` (0B). -/
  | decBc
  /-- R1012: `INC C` (0C). -/
  | incC
  /-- R1013: `DEC C` (0D). -/
  | decC
  /-- R1014: `LD C, d8` (0E). -/
  | ldCD8 (v : Byte)
  /-- R1015: `RRCA` (0F). -/
  | rrca
  /-- R1016: `STOP 0` (10). -/
  | stop0
  /-- R1017: `LD DE, d16` (11). -/
  | ldDeD16 (v : Word)
  /-- R1018: `LD (DE), A` (12). -/
  | ldAtDeA
  /-- R1019: `INC DE` (13). -/
  | incDe
  /-- R1020: `INC D` (14). -/
  | incD
  /-- R1021: `DEC D` (15). -/
  | decD
  /-- R1022: `LD D, d8` (16). -/
  | ldDD8 (v : Byte)
  /-- R1023: `RLA` (17). -/
  | rla
  /-- R1024: `JR r8` (18). -/
  | jrR8 (d : Int)
  /-- R1025: `ADD HL, DE` (19). -/
  | addHlDe
  /-- R1026: `LD A, (DE)` (1A). -/
  | ldAAtDe
  /-- R1027: `DEC DE` (1B). -/
  | decDe
  /-- R1028: `INC E` (1C). -/
  | incE
  /-- R1029: `DEC E` (1D). -/
  | decE
  /-- R1030: `LD E, d8` (1E). -/
  | ldED8 (v : Byte)
  /-- R1031: `RRA` (1F). -/
  | rra
  /-- R1032: `JR NZ, r8` (20). -/
  | jrNzR8 (d : Int)
  /-- R1033: `LD HL, d16` (21). -/
  | ldHlD16 (v : Word)
  /-- R1034: `LD (HL+), A` (22). -/
  | ldAtHlIncA
  /-- R1035: `INC HL` (23). -/
  | incHl
  /-- R1036: `INC H` (24). -/
  | incH
  /-- R1037: `DEC H` (25). -/
  | decH
  /-- R1038: `LD H, d8` (26). -/
  | ldHD8 (v : Byte)
  /-- R1039: `DAA` (27). -/
  | daa
  /-- R1040: `JR Z, r8` (28). -/
  | jrZR8 (d : Int)
  /-- R1041: `ADD HL, HL` (29). -/
  | addHlHl
  /-- R1042: `LD A, (HL+)` (2A). -/
  | ldAAtHlInc
  /-- R1043: `DEC HL` (2B). -/
  | decHl
  /-- R1044: `INC L` (2C). -/
  | incL
  /-- R1045: `DEC L` (2D). -/
  | decL
  /-- R1046: `LD L, d8` (2E). -/
  | ldLD8 (v : Byte)
  /-- R1047: `CPL` (2F). -/
  | cpl
  /-- R1048: `JR NC, r8` (30). -/
  | jrNcR8 (d : Int)
  /-- R1049: `LD SP, d16` (31). -/
  | ldSpD16 (v : Word)
  /-- R1050: `LD (HL-), A` (32). -/
  | ldAtHlDecA
  /-- R1051: `INC SP` (33). -/
  | incSp
  /-- R1052: `INC (HL)` (34). -/
  | incAtHl
  /-- R1053: `DEC (HL)` (35). -/
  | decAtHl
  /-- R1054: `LD (HL), d8` (36). -/
  | ldAtHlD8 (v : Byte)
  /-- R1055: `SCF` (37). -/
  | scf
  /-- R1056: `JR C, r8` (38). -/
  | jrCR8 (d : Int)
  /-- R1057: `ADD HL, SP` (39). -/
  | addHlSp
  /-- R1058: `LD A, (HL-)` (3A). -/
  | ldAAtHlDec
  /-- R1059: `DEC SP` (3B). -/
  | decSp
  /-- R1060: `INC A` (3C). -/
  | incA
  /-- R1061: `DEC A` (3D). -/
  | decA
  /-- R1062: `LD A, d8` (3E). -/
  | ldAD8 (v : Byte)
  /-- R1063: `CCF` (3F). -/
  | ccf
  /-- R1064: `LD B, B` (40). -/
  | ldBB
  /-- R1065: `LD B, C` (41). -/
  | ldBC
  /-- R1066: `LD B, D` (42). -/
  | ldBD
  /-- R1067: `LD B, E` (43). -/
  | ldBE
  /-- R1068: `LD B, H` (44). -/
  | ldBH
  /-- R1069: `LD B, L` (45). -/
  | ldBL
  /-- R1070: `LD B, (HL)` (46). -/
  | ldBAtHl
  /-- R1071: `LD B, A` (47). -/
  | ldBA
  /-- R1072: `LD C, B` (48). -/
  | ldCB
  /-- R1073: `LD C, C` (49). -/
  | ldCC
  /-- R1074: `LD C, D` (4A). -/
  | ldCD
  /-- R1075: `LD C, E` (4B). -/
  | ldCE
  /-- R1076: `LD C, H` (4C). -/
  | ldCH
  /-- R1077: `LD C, L` (4D). -/
  | ldCL
  /-- R1078: `LD C, (HL)` (4E). -/
  | ldCAtHl
  /-- R1079: `LD C, A` (4F). -/
  | ldCA
  /-- R1080: `LD D, B` (50). -/
  | ldDB
  /-- R1081: `LD D, C` (51). -/
  | ldDC
  /-- R1082: `LD D, D` (52). -/
  | ldDD
  /-- R1083: `LD D, E` (53). -/
  | ldDE
  /-- R1084: `LD D, H` (54). -/
  | ldDH
  /-- R1085: `LD D, L` (55). -/
  | ldDL
  /-- R1086: `LD D, (HL)` (56). -/
  | ldDAtHl
  /-- R1087: `LD D, A` (57). -/
  | ldDA
  /-- R1088: `LD E, B` (58). -/
  | ldEB
  /-- R1089: `LD E, C` (59). -/
  | ldEC
  /-- R1090: `LD E, D` (5A). -/
  | ldED
  /-- R1091: `LD E, E` (5B). -/
  | ldEE
  /-- R1092: `LD E, H` (5C). -/
  | ldEH
  /-- R1093: `LD E, L` (5D). -/
  | ldEL
  /-- R1094: `LD E, (HL)` (5E). -/
  | ldEAtHl
  /-- R1095: `LD E, A` (5F). -/
  | ldEA
  /-- R1096: `LD H, B` (60). -/
  | ldHB
  /-- R1097: `LD H, C` (61). -/
  | ldHC
  /-- R1098: `LD H, D` (62). -/
  | ldHD
  /-- R1099: `LD H, E` (63). -/
  | ldHE
  /-- R1100: `LD H, H` (64). -/
  | ldHH
  /-- R1101: `LD H, L` (65). -/
  | ldHL
  /-- R1102: `LD H, (HL)` (66). -/
  | ldHAtHl
  /-- R1103: `LD H, A` (67). -/
  | ldHA
  /-- R1104: `LD L, B` (68). -/
  | ldLB
  /-- R1105: `LD L, C` (69). -/
  | ldLC
  /-- R1106: `LD L, D` (6A). -/
  | ldLD
  /-- R1107: `LD L, E` (6B). -/
  | ldLE
  /-- R1108: `LD L, H` (6C). -/
  | ldLH
  /-- R1109: `LD L, L` (6D). -/
  | ldLL
  /-- R1110: `LD L, (HL)` (6E). -/
  | ldLAtHl
  /-- R1111: `LD L, A` (6F). -/
  | ldLA
  /-- R1112: `LD (HL), B` (70). -/
  | ldAtHlB
  /-- R1113: `LD (HL), C` (71). -/
  | ldAtHlC
  /-- R1114: `LD (HL), D` (72). -/
  | ldAtHlD
  /-- R1115: `LD (HL), E` (73). -/
  | ldAtHlE
  /-- R1116: `LD (HL), H` (74). -/
  | ldAtHlH
  /-- R1117: `LD (HL), L` (75). -/
  | ldAtHlL
  /-- R1118: `HALT` (76). -/
  | halt
  /-- R1119: `LD (HL), A` (77). -/
  | ldAtHlA
  /-- R1120: `LD A, B` (78). -/
  | ldAB
  /-- R1121: `LD A, C` (79). -/
  | ldAC
  /-- R1122: `LD A, D` (7A). -/
  | ldAD
  /-- R1123: `LD A, E` (7B). -/
  | ldAE
  /-- R1124: `LD A, H` (7C). -/
  | ldAH
  /-- R1125: `LD A, L` (7D). -/
  | ldAL
  /-- R1126: `LD A, (HL)` (7E). -/
  | ldAAtHl
  /-- R1127: `LD A, A` (7F). -/
  | ldAA
  /-- R1128: `ADD A, B` (80). -/
  | addAB
  /-- R1129: `ADD A, C` (81). -/
  | addAC
  /-- R1130: `ADD A, D` (82). -/
  | addAD
  /-- R1131: `ADD A, E` (83). -/
  | addAE
  /-- R1132: `ADD A, H` (84). -/
  | addAH
  /-- R1133: `ADD A, L` (85). -/
  | addAL
  /-- R1134: `ADD A, (HL)` (86). -/
  | addAAtHl
  /-- R1135: `ADD A, A` (87). -/
  | addAA
  /-- R1136: `ADC A, B` (88). -/
  | adcAB
  /-- R1137: `ADC A, C` (89). -/
  | adcAC
  /-- R1138: `ADC A, D` (8A). -/
  | adcAD
  /-- R1139: `ADC A, E` (8B). -/
  | adcAE
  /-- R1140: `ADC A, H` (8C). -/
  | adcAH
  /-- R1141: `ADC A, L` (8D). -/
  | adcAL
  /-- R1142: `ADC A, (HL)` (8E). -/
  | adcAAtHl
  /-- R1143: `ADC A, A` (8F). -/
  | adcAA
  /-- R1144: `SUB B` (90). -/
  | subB
  /-- R1145: `SUB C` (91). -/
  | subC
  /-- R1146: `SUB D` (92). -/
  | subD
  /-- R1147: `SUB E` (93). -/
  | subE
  /-- R1148: `SUB H` (94). -/
  | subH
  /-- R1149: `SUB L` (95). -/
  | subL
  /-- R1150: `SUB (HL)` (96). -/
  | subAtHl
  /-- R1151: `SUB A` (97). -/
  | subA
  /-- R1152: `SBC A, B` (98). -/
  | sbcAB
  /-- R1153: `SBC A, C` (99). -/
  | sbcAC
  /-- R1154: `SBC A, D` (9A). -/
  | sbcAD
  /-- R1155: `SBC A, E` (9B). -/
  | sbcAE
  /-- R1156: `SBC A, H` (9C). -/
  | sbcAH
  /-- R1157: `SBC A, L` (9D). -/
  | sbcAL
  /-- R1158: `SBC A, (HL)` (9E). -/
  | sbcAAtHl
  /-- R1159: `SBC A, A` (9F). -/
  | sbcAA
  /-- R1160: `AND B` (A0). -/
  | andB
  /-- R1161: `AND C` (A1). -/
  | andC
  /-- R1162: `AND D` (A2). -/
  | andD
  /-- R1163: `AND E` (A3). -/
  | andE
  /-- R1164: `AND H` (A4). -/
  | andH
  /-- R1165: `AND L` (A5). -/
  | andL
  /-- R1166: `AND (HL)` (A6). -/
  | andAtHl
  /-- R1167: `AND A` (A7). -/
  | andA
  /-- R1168: `XOR B` (A8). -/
  | xorB
  /-- R1169: `XOR C` (A9). -/
  | xorC
  /-- R1170: `XOR D` (AA). -/
  | xorD
  /-- R1171: `XOR E` (AB). -/
  | xorE
  /-- R1172: `XOR H` (AC). -/
  | xorH
  /-- R1173: `XOR L` (AD). -/
  | xorL
  /-- R1174: `XOR (HL)` (AE). -/
  | xorAtHl
  /-- R1175: `XOR A` (AF). -/
  | xorA
  /-- R1176: `OR B` (B0). -/
  | orB
  /-- R1177: `OR C` (B1). -/
  | orC
  /-- R1178: `OR D` (B2). -/
  | orD
  /-- R1179: `OR E` (B3). -/
  | orE
  /-- R1180: `OR H` (B4). -/
  | orH
  /-- R1181: `OR L` (B5). -/
  | orL
  /-- R1182: `OR (HL)` (B6). -/
  | orAtHl
  /-- R1183: `OR A` (B7). -/
  | orA
  /-- R1184: `CP B` (B8). -/
  | cpB
  /-- R1185: `CP C` (B9). -/
  | cpC
  /-- R1186: `CP D` (BA). -/
  | cpD
  /-- R1187: `CP E` (BB). -/
  | cpE
  /-- R1188: `CP H` (BC). -/
  | cpH
  /-- R1189: `CP L` (BD). -/
  | cpL
  /-- R1190: `CP (HL)` (BE). -/
  | cpAtHl
  /-- R1191: `CP A` (BF). -/
  | cpA
  /-- R1192: `RET NZ` (C0). -/
  | retNz
  /-- R1193: `POP BC` (C1). -/
  | popBc
  /-- R1194: `JP NZ, a16` (C2). -/
  | jpNzA16 (a : Word)
  /-- R1195: `JP a16` (C3). -/
  | jpA16 (a : Word)
  /-- R1196: `CALL NZ, a16` (C4). -/
  | callNzA16 (a : Word)
  /-- R1197: `PUSH BC` (C5). -/
  | pushBc
  /-- R1198: `ADD A, d8` (C6). -/
  | addAD8 (v : Byte)
  /-- R1199: `RST 00H` (C7). -/
  | rst00H
  /-- R1200: `RET Z` (C8). -/
  | retZ
  /-- R1201: `RET` (C9). -/
  | ret
  /-- R1202: `JP Z, a16` (CA). -/
  | jpZA16 (a : Word)
  /-- R1204: `CALL Z, a16` (CC). -/
  | callZA16 (a : Word)
  /-- R1205: `CALL a16` (CD). -/
  | callA16 (a : Word)
  /-- R1206: `ADC A, d8` (CE). -/
  | adcAD8 (v : Byte)
  /-- R1207: `RST 08H` (CF). -/
  | rst08H
  /-- R1208: `RET NC` (D0). -/
  | retNc
  /-- R1209: `POP DE` (D1). -/
  | popDe
  /-- R1210: `JP NC, a16` (D2). -/
  | jpNcA16 (a : Word)
  /-- R1212: `CALL NC, a16` (D4). -/
  | callNcA16 (a : Word)
  /-- R1213: `PUSH DE` (D5). -/
  | pushDe
  /-- R1214: `SUB d8` (D6). -/
  | subD8 (v : Byte)
  /-- R1215: `RST 10H` (D7). -/
  | rst10H
  /-- R1216: `RET C` (D8). -/
  | retC
  /-- R1217: `RETI` (D9). -/
  | reti
  /-- R1218: `JP C, a16` (DA). -/
  | jpCA16 (a : Word)
  /-- R1220: `CALL C, a16` (DC). -/
  | callCA16 (a : Word)
  /-- R1222: `SBC A, d8` (DE). -/
  | sbcAD8 (v : Byte)
  /-- R1223: `RST 18H` (DF). -/
  | rst18H
  /-- R1224: `LDH (a8), A` (E0). -/
  | ldhAtA8A (v : Byte)
  /-- R1225: `POP HL` (E1). -/
  | popHl
  /-- R1226: `LD (C), A` (E2). -/
  | ldAtCA
  /-- R1229: `PUSH HL` (E5). -/
  | pushHl
  /-- R1230: `AND d8` (E6). -/
  | andD8 (v : Byte)
  /-- R1231: `RST 20H` (E7). -/
  | rst20H
  /-- R1232: `ADD SP, r8` (E8). -/
  | addSpR8 (d : Int)
  /-- R1233: `JP (HL)` (E9). -/
  | jpAtHl
  /-- R1234: `LD (a16), A` (EA). -/
  | ldAtA16A (a : Word)
  /-- R1238: `XOR d8` (EE). -/
  | xorD8 (v : Byte)
  /-- R1239: `RST 28H` (EF). -/
  | rst28H
  /-- R1240: `LDH A, (a8)` (F0). -/
  | ldhAAtA8 (v : Byte)
  /-- R1241: `POP AF` (F1). -/
  | popAf
  /-- R1242: `LD A, (C)` (F2). -/
  | ldAAtC
  /-- R1243: `DI` (F3). -/
  | di
  /-- R1245: `PUSH AF` (F5). -/
  | pushAf
  /-- R1246: `OR d8` (F6). -/
  | orD8 (v : Byte)
  /-- R1247: `RST 30H` (F7). -/
  | rst30H
  /-- R1248: `LD HL, SP+r8` (F8). -/
  | ldHlSpPlusR8 (d : Int)
  /-- R1249: `LD SP, HL` (F9). -/
  | ldSpHl
  /-- R1250: `LD A, (a16)` (FA). -/
  | ldAAtA16 (a : Word)
  /-- R1251: `EI` (FB). -/
  | ei
  /-- R1254: `CP d8` (FE). -/
  | cpD8 (v : Byte)
  /-- R1255: `RST 38H` (FF). -/
  | rst38H
  /-- R1203: `PREFIX CB` (CB). -/
  | prefixCb
  /-- R1211: `????` (D3). -/
  | undefD3
  /-- R1219: `????` (DB). -/
  | undefDB
  /-- R1221: `????` (DD). -/
  | undefDD
  /-- R1227: `????` (E3). -/
  | undefE3
  /-- R1228: `????` (E4). -/
  | undefE4
  /-- R1235: `????` (EB). -/
  | undefEB
  /-- R1236: `????` (EC). -/
  | undefEC
  /-- R1237: `????` (ED). -/
  | undefED
  /-- R1244: `????` (F4). -/
  | undefF4
  /-- R1252: `????` (FC). -/
  | undefFC
  /-- R1253: `????` (FD). -/
  | undefFD
  /-- R2000: `RLC B` (CB 00). -/
  | rlcB
  /-- R2001: `RLC C` (CB 01). -/
  | rlcC
  /-- R2002: `RLC D` (CB 02). -/
  | rlcD
  /-- R2003: `RLC E` (CB 03). -/
  | rlcE
  /-- R2004: `RLC H` (CB 04). -/
  | rlcH
  /-- R2005: `RLC L` (CB 05). -/
  | rlcL
  /-- R2006: `RLC (HL)` (CB 06). -/
  | rlcAtHl
  /-- R2007: `RLC A` (CB 07). -/
  | rlcA
  /-- R2008: `RRC B` (CB 08). -/
  | rrcB
  /-- R2009: `RRC C` (CB 09). -/
  | rrcC
  /-- R2010: `RRC D` (CB 0A). -/
  | rrcD
  /-- R2011: `RRC E` (CB 0B). -/
  | rrcE
  /-- R2012: `RRC H` (CB 0C). -/
  | rrcH
  /-- R2013: `RRC L` (CB 0D). -/
  | rrcL
  /-- R2014: `RRC (HL)` (CB 0E). -/
  | rrcAtHl
  /-- R2015: `RRC A` (CB 0F). -/
  | rrcA
  /-- R2016: `RL B` (CB 10). -/
  | rlB
  /-- R2017: `RL C` (CB 11). -/
  | rlC
  /-- R2018: `RL D` (CB 12). -/
  | rlD
  /-- R2019: `RL E` (CB 13). -/
  | rlE
  /-- R2020: `RL H` (CB 14). -/
  | rlH
  /-- R2021: `RL L` (CB 15). -/
  | rlL
  /-- R2022: `RL (HL)` (CB 16). -/
  | rlAtHl
  /-- R2023: `RL A` (CB 17). -/
  | rlA
  /-- R2024: `RR B` (CB 18). -/
  | rrB
  /-- R2025: `RR C` (CB 19). -/
  | rrC
  /-- R2026: `RR D` (CB 1A). -/
  | rrD
  /-- R2027: `RR E` (CB 1B). -/
  | rrE
  /-- R2028: `RR H` (CB 1C). -/
  | rrH
  /-- R2029: `RR L` (CB 1D). -/
  | rrL
  /-- R2030: `RR (HL)` (CB 1E). -/
  | rrAtHl
  /-- R2031: `RR A` (CB 1F). -/
  | rrA
  /-- R2032: `SLA B` (CB 20). -/
  | slaB
  /-- R2033: `SLA C` (CB 21). -/
  | slaC
  /-- R2034: `SLA D` (CB 22). -/
  | slaD
  /-- R2035: `SLA E` (CB 23). -/
  | slaE
  /-- R2036: `SLA H` (CB 24). -/
  | slaH
  /-- R2037: `SLA L` (CB 25). -/
  | slaL
  /-- R2038: `SLA (HL)` (CB 26). -/
  | slaAtHl
  /-- R2039: `SLA A` (CB 27). -/
  | slaA
  /-- R2040: `SRA B` (CB 28). -/
  | sraB
  /-- R2041: `SRA C` (CB 29). -/
  | sraC
  /-- R2042: `SRA D` (CB 2A). -/
  | sraD
  /-- R2043: `SRA E` (CB 2B). -/
  | sraE
  /-- R2044: `SRA H` (CB 2C). -/
  | sraH
  /-- R2045: `SRA L` (CB 2D). -/
  | sraL
  /-- R2046: `SRA (HL)` (CB 2E). -/
  | sraAtHl
  /-- R2047: `SRA A` (CB 2F). -/
  | sraA
  /-- R2048: `SWAP B` (CB 30). -/
  | swapB
  /-- R2049: `SWAP C` (CB 31). -/
  | swapC
  /-- R2050: `SWAP D` (CB 32). -/
  | swapD
  /-- R2051: `SWAP E` (CB 33). -/
  | swapE
  /-- R2052: `SWAP H` (CB 34). -/
  | swapH
  /-- R2053: `SWAP L` (CB 35). -/
  | swapL
  /-- R2054: `SWAP (HL)` (CB 36). -/
  | swapAtHl
  /-- R2055: `SWAP A` (CB 37). -/
  | swapA
  /-- R2056: `SRL B` (CB 38). -/
  | srlB
  /-- R2057: `SRL C` (CB 39). -/
  | srlC
  /-- R2058: `SRL D` (CB 3A). -/
  | srlD
  /-- R2059: `SRL E` (CB 3B). -/
  | srlE
  /-- R2060: `SRL H` (CB 3C). -/
  | srlH
  /-- R2061: `SRL L` (CB 3D). -/
  | srlL
  /-- R2062: `SRL (HL)` (CB 3E). -/
  | srlAtHl
  /-- R2063: `SRL A` (CB 3F). -/
  | srlA
  /-- R2064: `BIT 0, B` (CB 40). -/
  | bit0B
  /-- R2065: `BIT 0, C` (CB 41). -/
  | bit0C
  /-- R2066: `BIT 0, D` (CB 42). -/
  | bit0D
  /-- R2067: `BIT 0, E` (CB 43). -/
  | bit0E
  /-- R2068: `BIT 0, H` (CB 44). -/
  | bit0H
  /-- R2069: `BIT 0, L` (CB 45). -/
  | bit0L
  /-- R2070: `BIT 0, (HL)` (CB 46). -/
  | bit0AtHl
  /-- R2071: `BIT 0, A` (CB 47). -/
  | bit0A
  /-- R2072: `BIT 1, B` (CB 48). -/
  | bit1B
  /-- R2073: `BIT 1, C` (CB 49). -/
  | bit1C
  /-- R2074: `BIT 1, D` (CB 4A). -/
  | bit1D
  /-- R2075: `BIT 1, E` (CB 4B). -/
  | bit1E
  /-- R2076: `BIT 1, H` (CB 4C). -/
  | bit1H
  /-- R2077: `BIT 1, L` (CB 4D). -/
  | bit1L
  /-- R2078: `BIT 1, (HL)` (CB 4E). -/
  | bit1AtHl
  /-- R2079: `BIT 1, A` (CB 4F). -/
  | bit1A
  /-- R2080: `BIT 2, B` (CB 50). -/
  | bit2B
  /-- R2081: `BIT 2, C` (CB 51). -/
  | bit2C
  /-- R2082: `BIT 2, D` (CB 52). -/
  | bit2D
  /-- R2083: `BIT 2, E` (CB 53). -/
  | bit2E
  /-- R2084: `BIT 2, H` (CB 54). -/
  | bit2H
  /-- R2085: `BIT 2, L` (CB 55). -/
  | bit2L
  /-- R2086: `BIT 2, (HL)` (CB 56). -/
  | bit2AtHl
  /-- R2087: `BIT 2, A` (CB 57). -/
  | bit2A
  /-- R2088: `BIT 3, B` (CB 58). -/
  | bit3B
  /-- R2089: `BIT 3, C` (CB 59). -/
  | bit3C
  /-- R2090: `BIT 3, D` (CB 5A). -/
  | bit3D
  /-- R2091: `BIT 3, E` (CB 5B). -/
  | bit3E
  /-- R2092: `BIT 3, H` (CB 5C). -/
  | bit3H
  /-- R2093: `BIT 3, L` (CB 5D). -/
  | bit3L
  /-- R2094: `BIT 3, (HL)` (CB 5E). -/
  | bit3AtHl
  /-- R2095: `BIT 3, A` (CB 5F). -/
  | bit3A
  /-- R2096: `BIT 4, B` (CB 60). -/
  | bit4B
  /-- R2097: `BIT 4, C` (CB 61). -/
  | bit4C
  /-- R2098: `BIT 4, D` (CB 62). -/
  | bit4D
  /-- R2099: `BIT 4, E` (CB 63). -/
  | bit4E
  /-- R2100: `BIT 4, H` (CB 64). -/
  | bit4H
  /-- R2101: `BIT 4, L` (CB 65). -/
  | bit4L
  /-- R2102: `BIT 4, (HL)` (CB 66). -/
  | bit4AtHl
  /-- R2103: `BIT 4, A` (CB 67). -/
  | bit4A
  /-- R2104: `BIT 5, B` (CB 68). -/
  | bit5B
  /-- R2105: `BIT 5, C` (CB 69). -/
  | bit5C
  /-- R2106: `BIT 5, D` (CB 6A). -/
  | bit5D
  /-- R2107: `BIT 5, E` (CB 6B). -/
  | bit5E
  /-- R2108: `BIT 5, H` (CB 6C). -/
  | bit5H
  /-- R2109: `BIT 5, L` (CB 6D). -/
  | bit5L
  /-- R2110: `BIT 5, (HL)` (CB 6E). -/
  | bit5AtHl
  /-- R2111: `BIT 5, A` (CB 6F). -/
  | bit5A
  /-- R2112: `BIT 6, B` (CB 70). -/
  | bit6B
  /-- R2113: `BIT 6, C` (CB 71). -/
  | bit6C
  /-- R2114: `BIT 6, D` (CB 72). -/
  | bit6D
  /-- R2115: `BIT 6, E` (CB 73). -/
  | bit6E
  /-- R2116: `BIT 6, H` (CB 74). -/
  | bit6H
  /-- R2117: `BIT 6, L` (CB 75). -/
  | bit6L
  /-- R2118: `BIT 6, (HL)` (CB 76). -/
  | bit6AtHl
  /-- R2119: `BIT 6, A` (CB 77). -/
  | bit6A
  /-- R2120: `BIT 7, B` (CB 78). -/
  | bit7B
  /-- R2121: `BIT 7, C` (CB 79). -/
  | bit7C
  /-- R2122: `BIT 7, D` (CB 7A). -/
  | bit7D
  /-- R2123: `BIT 7, E` (CB 7B). -/
  | bit7E
  /-- R2124: `BIT 7, H` (CB 7C). -/
  | bit7H
  /-- R2125: `BIT 7, L` (CB 7D). -/
  | bit7L
  /-- R2126: `BIT 7, (HL)` (CB 7E). -/
  | bit7AtHl
  /-- R2127: `BIT 7, A` (CB 7F). -/
  | bit7A
  /-- R2128: `RES 0, B` (CB 80). -/
  | res0B
  /-- R2129: `RES 0, C` (CB 81). -/
  | res0C
  /-- R2130: `RES 0, D` (CB 82). -/
  | res0D
  /-- R2131: `RES 0, E` (CB 83). -/
  | res0E
  /-- R2132: `RES 0, H` (CB 84). -/
  | res0H
  /-- R2133: `RES 0, L` (CB 85). -/
  | res0L
  /-- R2134: `RES 0, (HL)` (CB 86). -/
  | res0AtHl
  /-- R2135: `RES 0, A` (CB 87). -/
  | res0A
  /-- R2136: `RES 1, B` (CB 88). -/
  | res1B
  /-- R2137: `RES 1, C` (CB 89). -/
  | res1C
  /-- R2138: `RES 1, D` (CB 8A). -/
  | res1D
  /-- R2139: `RES 1, E` (CB 8B). -/
  | res1E
  /-- R2140: `RES 1, H` (CB 8C). -/
  | res1H
  /-- R2141: `RES 1, L` (CB 8D). -/
  | res1L
  /-- R2142: `RES 1, (HL)` (CB 8E). -/
  | res1AtHl
  /-- R2143: `RES 1, A` (CB 8F). -/
  | res1A
  /-- R2144: `RES 2, B` (CB 90). -/
  | res2B
  /-- R2145: `RES 2, C` (CB 91). -/
  | res2C
  /-- R2146: `RES 2, D` (CB 92). -/
  | res2D
  /-- R2147: `RES 2, E` (CB 93). -/
  | res2E
  /-- R2148: `RES 2, H` (CB 94). -/
  | res2H
  /-- R2149: `RES 2, L` (CB 95). -/
  | res2L
  /-- R2150: `RES 2, (HL)` (CB 96). -/
  | res2AtHl
  /-- R2151: `RES 2, A` (CB 97). -/
  | res2A
  /-- R2152: `RES 3, B` (CB 98). -/
  | res3B
  /-- R2153: `RES 3, C` (CB 99). -/
  | res3C
  /-- R2154: `RES 3, D` (CB 9A). -/
  | res3D
  /-- R2155: `RES 3, E` (CB 9B). -/
  | res3E
  /-- R2156: `RES 3, H` (CB 9C). -/
  | res3H
  /-- R2157: `RES 3, L` (CB 9D). -/
  | res3L
  /-- R2158: `RES 3, (HL)` (CB 9E). -/
  | res3AtHl
  /-- R2159: `RES 3, A` (CB 9F). -/
  | res3A
  /-- R2160: `RES 4, B` (CB A0). -/
  | res4B
  /-- R2161: `RES 4, C` (CB A1). -/
  | res4C
  /-- R2162: `RES 4, D` (CB A2). -/
  | res4D
  /-- R2163: `RES 4, E` (CB A3). -/
  | res4E
  /-- R2164: `RES 4, H` (CB A4). -/
  | res4H
  /-- R2165: `RES 4, L` (CB A5). -/
  | res4L
  /-- R2166: `RES 4, (HL)` (CB A6). -/
  | res4AtHl
  /-- R2167: `RES 4, A` (CB A7). -/
  | res4A
  /-- R2168: `RES 5, B` (CB A8). -/
  | res5B
  /-- R2169: `RES 5, C` (CB A9). -/
  | res5C
  /-- R2170: `RES 5, D` (CB AA). -/
  | res5D
  /-- R2171: `RES 5, E` (CB AB). -/
  | res5E
  /-- R2172: `RES 5, H` (CB AC). -/
  | res5H
  /-- R2173: `RES 5, L` (CB AD). -/
  | res5L
  /-- R2174: `RES 5, (HL)` (CB AE). -/
  | res5AtHl
  /-- R2175: `RES 5, A` (CB AF). -/
  | res5A
  /-- R2176: `RES 6, B` (CB B0). -/
  | res6B
  /-- R2177: `RES 6, C` (CB B1). -/
  | res6C
  /-- R2178: `RES 6, D` (CB B2). -/
  | res6D
  /-- R2179: `RES 6, E` (CB B3). -/
  | res6E
  /-- R2180: `RES 6, H` (CB B4). -/
  | res6H
  /-- R2181: `RES 6, L` (CB B5). -/
  | res6L
  /-- R2182: `RES 6, (HL)` (CB B6). -/
  | res6AtHl
  /-- R2183: `RES 6, A` (CB B7). -/
  | res6A
  /-- R2184: `RES 7, B` (CB B8). -/
  | res7B
  /-- R2185: `RES 7, C` (CB B9). -/
  | res7C
  /-- R2186: `RES 7, D` (CB BA). -/
  | res7D
  /-- R2187: `RES 7, E` (CB BB). -/
  | res7E
  /-- R2188: `RES 7, H` (CB BC). -/
  | res7H
  /-- R2189: `RES 7, L` (CB BD). -/
  | res7L
  /-- R2190: `RES 7, (HL)` (CB BE). -/
  | res7AtHl
  /-- R2191: `RES 7, A` (CB BF). -/
  | res7A
  /-- R2192: `SET 0, B` (CB C0). -/
  | set0B
  /-- R2193: `SET 0, C` (CB C1). -/
  | set0C
  /-- R2194: `SET 0, D` (CB C2). -/
  | set0D
  /-- R2195: `SET 0, E` (CB C3). -/
  | set0E
  /-- R2196: `SET 0, H` (CB C4). -/
  | set0H
  /-- R2197: `SET 0, L` (CB C5). -/
  | set0L
  /-- R2198: `SET 0, (HL)` (CB C6). -/
  | set0AtHl
  /-- R2199: `SET 0, A` (CB C7). -/
  | set0A
  /-- R2200: `SET 1, B` (CB C8). -/
  | set1B
  /-- R2201: `SET 1, C` (CB C9). -/
  | set1C
  /-- R2202: `SET 1, D` (CB CA). -/
  | set1D
  /-- R2203: `SET 1, E` (CB CB). -/
  | set1E
  /-- R2204: `SET 1, H` (CB CC). -/
  | set1H
  /-- R2205: `SET 1, L` (CB CD). -/
  | set1L
  /-- R2206: `SET 1, (HL)` (CB CE). -/
  | set1AtHl
  /-- R2207: `SET 1, A` (CB CF). -/
  | set1A
  /-- R2208: `SET 2, B` (CB D0). -/
  | set2B
  /-- R2209: `SET 2, C` (CB D1). -/
  | set2C
  /-- R2210: `SET 2, D` (CB D2). -/
  | set2D
  /-- R2211: `SET 2, E` (CB D3). -/
  | set2E
  /-- R2212: `SET 2, H` (CB D4). -/
  | set2H
  /-- R2213: `SET 2, L` (CB D5). -/
  | set2L
  /-- R2214: `SET 2, (HL)` (CB D6). -/
  | set2AtHl
  /-- R2215: `SET 2, A` (CB D7). -/
  | set2A
  /-- R2216: `SET 3, B` (CB D8). -/
  | set3B
  /-- R2217: `SET 3, C` (CB D9). -/
  | set3C
  /-- R2218: `SET 3, D` (CB DA). -/
  | set3D
  /-- R2219: `SET 3, E` (CB DB). -/
  | set3E
  /-- R2220: `SET 3, H` (CB DC). -/
  | set3H
  /-- R2221: `SET 3, L` (CB DD). -/
  | set3L
  /-- R2222: `SET 3, (HL)` (CB DE). -/
  | set3AtHl
  /-- R2223: `SET 3, A` (CB DF). -/
  | set3A
  /-- R2224: `SET 4, B` (CB E0). -/
  | set4B
  /-- R2225: `SET 4, C` (CB E1). -/
  | set4C
  /-- R2226: `SET 4, D` (CB E2). -/
  | set4D
  /-- R2227: `SET 4, E` (CB E3). -/
  | set4E
  /-- R2228: `SET 4, H` (CB E4). -/
  | set4H
  /-- R2229: `SET 4, L` (CB E5). -/
  | set4L
  /-- R2230: `SET 4, (HL)` (CB E6). -/
  | set4AtHl
  /-- R2231: `SET 4, A` (CB E7). -/
  | set4A
  /-- R2232: `SET 5, B` (CB E8). -/
  | set5B
  /-- R2233: `SET 5, C` (CB E9). -/
  | set5C
  /-- R2234: `SET 5, D` (CB EA). -/
  | set5D
  /-- R2235: `SET 5, E` (CB EB). -/
  | set5E
  /-- R2236: `SET 5, H` (CB EC). -/
  | set5H
  /-- R2237: `SET 5, L` (CB ED). -/
  | set5L
  /-- R2238: `SET 5, (HL)` (CB EE). -/
  | set5AtHl
  /-- R2239: `SET 5, A` (CB EF). -/
  | set5A
  /-- R2240: `SET 6, B` (CB F0). -/
  | set6B
  /-- R2241: `SET 6, C` (CB F1). -/
  | set6C
  /-- R2242: `SET 6, D` (CB F2). -/
  | set6D
  /-- R2243: `SET 6, E` (CB F3). -/
  | set6E
  /-- R2244: `SET 6, H` (CB F4). -/
  | set6H
  /-- R2245: `SET 6, L` (CB F5). -/
  | set6L
  /-- R2246: `SET 6, (HL)` (CB F6). -/
  | set6AtHl
  /-- R2247: `SET 6, A` (CB F7). -/
  | set6A
  /-- R2248: `SET 7, B` (CB F8). -/
  | set7B
  /-- R2249: `SET 7, C` (CB F9). -/
  | set7C
  /-- R2250: `SET 7, D` (CB FA). -/
  | set7D
  /-- R2251: `SET 7, E` (CB FB). -/
  | set7E
  /-- R2252: `SET 7, H` (CB FC). -/
  | set7H
  /-- R2253: `SET 7, L` (CB FD). -/
  | set7L
  /-- R2254: `SET 7, (HL)` (CB FE). -/
  | set7AtHl
  /-- R2255: `SET 7, A` (CB FF). -/
  | set7A
deriving DecidableEq, Repr

end Sys2Proof
end

