-- ==== Sys2Proof/Decode.lean ====
section
/-! DEFINITION. From bytes to instructions and back (30_encoding.md). The first byte is a whole-byte table
index (R75); 0xCB escapes to the secondary table (R77, R84); the shape of a primary entry fixes how many
operand bytes follow (R70 to R74). `decode` is total and refuses only bytes that end too early; `encode`
is written from the same tables. -/

namespace Sys2Proof

/-! ## Bytes of a word -/

/-- `v[15:8]` (R21). -/
def highByte (v : Word) : Byte := BitVec.ofNat 8 (v.toNat / 256)

/-- `v[7:0]` (R21). -/
def lowByte (v : Word) : Byte := BitVec.ofNat 8 v.toNat

/-- `(h << 8) | l` (00_scope.md §5). -/
def joinBytes (h l : Byte) : Word := BitVec.ofNat 16 (h.toNat * 256 + l.toNat)

/-- `sext_8(v)`: the two's-complement reading of a byte (00_scope.md §5, R144). -/
def signExtend8 (v : Byte) : Int := if v.toNat < 128 then (v.toNat : Int) else (v.toNat : Int) - 256

/-- The byte that an `i8` is encoded as: the inverse of `signExtend8` on -128..127. -/
def i8Byte (d : Int) : Byte := BitVec.ofInt 8 d

/-! ## The decoder's tables -/

/-- The number of bytes after the opcode (R72). -/
def Shape.operandBytes : Shape → Nat
  | .none => 0
  | .imm8 => 1
  | .imm16 => 2
  | .addr16 => 2
  | .rel8 => 1

/-- One primary entry: an instruction, or what makes one from the operand its shape reads. -/
inductive Entry where
  | plain (i : Instr)
  | imm8 (mk : Byte → Instr)
  | imm16 (mk : Word → Instr)
  | addr16 (mk : Word → Instr)
  | rel8 (mk : Int → Instr)

/-- The operand shape of an entry. -/
def Entry.shape : Entry → Shape
  | .plain _ => .none
  | .imm8 _ => .imm8
  | .imm16 _ => .imm16
  | .addr16 _ => .addr16
  | .rel8 _ => .rel8

/-- Primary bytes 0x00 to 0x0F. -/
def primaryEntries0 : List Entry :=
  [.plain .nop, .imm16 .ldBcD16, .plain .ldAtBcA, .plain .incBc,
   .plain .incB, .plain .decB, .imm8 .ldBD8, .plain .rlca,
   .addr16 .ldAtA16Sp, .plain .addHlBc, .plain .ldAAtBc, .plain .decBc,
   .plain .incC, .plain .decC, .imm8 .ldCD8, .plain .rrca]

/-- Primary bytes 0x10 to 0x1F. -/
def primaryEntries1 : List Entry :=
  [.plain .stop0, .imm16 .ldDeD16, .plain .ldAtDeA, .plain .incDe,
   .plain .incD, .plain .decD, .imm8 .ldDD8, .plain .rla,
   .rel8 .jrR8, .plain .addHlDe, .plain .ldAAtDe, .plain .decDe,
   .plain .incE, .plain .decE, .imm8 .ldED8, .plain .rra]

/-- Primary bytes 0x20 to 0x2F. -/
def primaryEntries2 : List Entry :=
  [.rel8 .jrNzR8, .imm16 .ldHlD16, .plain .ldAtHlIncA, .plain .incHl,
   .plain .incH, .plain .decH, .imm8 .ldHD8, .plain .daa,
   .rel8 .jrZR8, .plain .addHlHl, .plain .ldAAtHlInc, .plain .decHl,
   .plain .incL, .plain .decL, .imm8 .ldLD8, .plain .cpl]

/-- Primary bytes 0x30 to 0x3F. -/
def primaryEntries3 : List Entry :=
  [.rel8 .jrNcR8, .imm16 .ldSpD16, .plain .ldAtHlDecA, .plain .incSp,
   .plain .incAtHl, .plain .decAtHl, .imm8 .ldAtHlD8, .plain .scf,
   .rel8 .jrCR8, .plain .addHlSp, .plain .ldAAtHlDec, .plain .decSp,
   .plain .incA, .plain .decA, .imm8 .ldAD8, .plain .ccf]

/-- Primary bytes 0x40 to 0x4F. -/
def primaryEntries4 : List Entry :=
  [.plain .ldBB, .plain .ldBC, .plain .ldBD, .plain .ldBE,
   .plain .ldBH, .plain .ldBL, .plain .ldBAtHl, .plain .ldBA,
   .plain .ldCB, .plain .ldCC, .plain .ldCD, .plain .ldCE,
   .plain .ldCH, .plain .ldCL, .plain .ldCAtHl, .plain .ldCA]

/-- Primary bytes 0x50 to 0x5F. -/
def primaryEntries5 : List Entry :=
  [.plain .ldDB, .plain .ldDC, .plain .ldDD, .plain .ldDE,
   .plain .ldDH, .plain .ldDL, .plain .ldDAtHl, .plain .ldDA,
   .plain .ldEB, .plain .ldEC, .plain .ldED, .plain .ldEE,
   .plain .ldEH, .plain .ldEL, .plain .ldEAtHl, .plain .ldEA]

/-- Primary bytes 0x60 to 0x6F. -/
def primaryEntries6 : List Entry :=
  [.plain .ldHB, .plain .ldHC, .plain .ldHD, .plain .ldHE,
   .plain .ldHH, .plain .ldHL, .plain .ldHAtHl, .plain .ldHA,
   .plain .ldLB, .plain .ldLC, .plain .ldLD, .plain .ldLE,
   .plain .ldLH, .plain .ldLL, .plain .ldLAtHl, .plain .ldLA]

/-- Primary bytes 0x70 to 0x7F. -/
def primaryEntries7 : List Entry :=
  [.plain .ldAtHlB, .plain .ldAtHlC, .plain .ldAtHlD, .plain .ldAtHlE,
   .plain .ldAtHlH, .plain .ldAtHlL, .plain .halt, .plain .ldAtHlA,
   .plain .ldAB, .plain .ldAC, .plain .ldAD, .plain .ldAE,
   .plain .ldAH, .plain .ldAL, .plain .ldAAtHl, .plain .ldAA]

/-- Primary bytes 0x80 to 0x8F. -/
def primaryEntries8 : List Entry :=
  [.plain .addAB, .plain .addAC, .plain .addAD, .plain .addAE,
   .plain .addAH, .plain .addAL, .plain .addAAtHl, .plain .addAA,
   .plain .adcAB, .plain .adcAC, .plain .adcAD, .plain .adcAE,
   .plain .adcAH, .plain .adcAL, .plain .adcAAtHl, .plain .adcAA]

/-- Primary bytes 0x90 to 0x9F. -/
def primaryEntries9 : List Entry :=
  [.plain .subB, .plain .subC, .plain .subD, .plain .subE,
   .plain .subH, .plain .subL, .plain .subAtHl, .plain .subA,
   .plain .sbcAB, .plain .sbcAC, .plain .sbcAD, .plain .sbcAE,
   .plain .sbcAH, .plain .sbcAL, .plain .sbcAAtHl, .plain .sbcAA]

/-- Primary bytes 0xA0 to 0xAF. -/
def primaryEntriesA : List Entry :=
  [.plain .andB, .plain .andC, .plain .andD, .plain .andE,
   .plain .andH, .plain .andL, .plain .andAtHl, .plain .andA,
   .plain .xorB, .plain .xorC, .plain .xorD, .plain .xorE,
   .plain .xorH, .plain .xorL, .plain .xorAtHl, .plain .xorA]

/-- Primary bytes 0xB0 to 0xBF. -/
def primaryEntriesB : List Entry :=
  [.plain .orB, .plain .orC, .plain .orD, .plain .orE,
   .plain .orH, .plain .orL, .plain .orAtHl, .plain .orA,
   .plain .cpB, .plain .cpC, .plain .cpD, .plain .cpE,
   .plain .cpH, .plain .cpL, .plain .cpAtHl, .plain .cpA]

/-- Primary bytes 0xC0 to 0xCF. -/
def primaryEntriesC : List Entry :=
  [.plain .retNz, .plain .popBc, .addr16 .jpNzA16, .addr16 .jpA16,
   .addr16 .callNzA16, .plain .pushBc, .imm8 .addAD8, .plain .rst00H,
   .plain .retZ, .plain .ret, .addr16 .jpZA16, .plain .prefixCb,
   .addr16 .callZA16, .addr16 .callA16, .imm8 .adcAD8, .plain .rst08H]

/-- Primary bytes 0xD0 to 0xDF. -/
def primaryEntriesD : List Entry :=
  [.plain .retNc, .plain .popDe, .addr16 .jpNcA16, .plain .undefD3,
   .addr16 .callNcA16, .plain .pushDe, .imm8 .subD8, .plain .rst10H,
   .plain .retC, .plain .reti, .addr16 .jpCA16, .plain .undefDB,
   .addr16 .callCA16, .plain .undefDD, .imm8 .sbcAD8, .plain .rst18H]

/-- Primary bytes 0xE0 to 0xEF. -/
def primaryEntriesE : List Entry :=
  [.imm8 .ldhAtA8A, .plain .popHl, .plain .ldAtCA, .plain .undefE3,
   .plain .undefE4, .plain .pushHl, .imm8 .andD8, .plain .rst20H,
   .rel8 .addSpR8, .plain .jpAtHl, .addr16 .ldAtA16A, .plain .undefEB,
   .plain .undefEC, .plain .undefED, .imm8 .xorD8, .plain .rst28H]

/-- Primary bytes 0xF0 to 0xFF. -/
def primaryEntriesF : List Entry :=
  [.imm8 .ldhAAtA8, .plain .popAf, .plain .ldAAtC, .plain .di,
   .plain .undefF4, .plain .pushAf, .imm8 .orD8, .plain .rst30H,
   .rel8 .ldHlSpPlusR8, .plain .ldSpHl, .addr16 .ldAAtA16, .plain .ei,
   .plain .undefFC, .plain .undefFD, .imm8 .cpD8, .plain .rst38H]

/-- Second bytes 0x00 to 0x0F after 0xCB. -/
def secondaryInstrs0 : List Instr :=
  [.rlcB, .rlcC, .rlcD, .rlcE, .rlcH, .rlcL, .rlcAtHl, .rlcA,
   .rrcB, .rrcC, .rrcD, .rrcE, .rrcH, .rrcL, .rrcAtHl, .rrcA]

/-- Second bytes 0x10 to 0x1F after 0xCB. -/
def secondaryInstrs1 : List Instr :=
  [.rlB, .rlC, .rlD, .rlE, .rlH, .rlL, .rlAtHl, .rlA,
   .rrB, .rrC, .rrD, .rrE, .rrH, .rrL, .rrAtHl, .rrA]

/-- Second bytes 0x20 to 0x2F after 0xCB. -/
def secondaryInstrs2 : List Instr :=
  [.slaB, .slaC, .slaD, .slaE, .slaH, .slaL, .slaAtHl, .slaA,
   .sraB, .sraC, .sraD, .sraE, .sraH, .sraL, .sraAtHl, .sraA]

/-- Second bytes 0x30 to 0x3F after 0xCB. -/
def secondaryInstrs3 : List Instr :=
  [.swapB, .swapC, .swapD, .swapE, .swapH, .swapL, .swapAtHl, .swapA,
   .srlB, .srlC, .srlD, .srlE, .srlH, .srlL, .srlAtHl, .srlA]

/-- Second bytes 0x40 to 0x4F after 0xCB. -/
def secondaryInstrs4 : List Instr :=
  [.bit0B, .bit0C, .bit0D, .bit0E, .bit0H, .bit0L, .bit0AtHl, .bit0A,
   .bit1B, .bit1C, .bit1D, .bit1E, .bit1H, .bit1L, .bit1AtHl, .bit1A]

/-- Second bytes 0x50 to 0x5F after 0xCB. -/
def secondaryInstrs5 : List Instr :=
  [.bit2B, .bit2C, .bit2D, .bit2E, .bit2H, .bit2L, .bit2AtHl, .bit2A,
   .bit3B, .bit3C, .bit3D, .bit3E, .bit3H, .bit3L, .bit3AtHl, .bit3A]

/-- Second bytes 0x60 to 0x6F after 0xCB. -/
def secondaryInstrs6 : List Instr :=
  [.bit4B, .bit4C, .bit4D, .bit4E, .bit4H, .bit4L, .bit4AtHl, .bit4A,
   .bit5B, .bit5C, .bit5D, .bit5E, .bit5H, .bit5L, .bit5AtHl, .bit5A]

/-- Second bytes 0x70 to 0x7F after 0xCB. -/
def secondaryInstrs7 : List Instr :=
  [.bit6B, .bit6C, .bit6D, .bit6E, .bit6H, .bit6L, .bit6AtHl, .bit6A,
   .bit7B, .bit7C, .bit7D, .bit7E, .bit7H, .bit7L, .bit7AtHl, .bit7A]

/-- Second bytes 0x80 to 0x8F after 0xCB. -/
def secondaryInstrs8 : List Instr :=
  [.res0B, .res0C, .res0D, .res0E, .res0H, .res0L, .res0AtHl, .res0A,
   .res1B, .res1C, .res1D, .res1E, .res1H, .res1L, .res1AtHl, .res1A]

/-- Second bytes 0x90 to 0x9F after 0xCB. -/
def secondaryInstrs9 : List Instr :=
  [.res2B, .res2C, .res2D, .res2E, .res2H, .res2L, .res2AtHl, .res2A,
   .res3B, .res3C, .res3D, .res3E, .res3H, .res3L, .res3AtHl, .res3A]

/-- Second bytes 0xA0 to 0xAF after 0xCB. -/
def secondaryInstrsA : List Instr :=
  [.res4B, .res4C, .res4D, .res4E, .res4H, .res4L, .res4AtHl, .res4A,
   .res5B, .res5C, .res5D, .res5E, .res5H, .res5L, .res5AtHl, .res5A]

/-- Second bytes 0xB0 to 0xBF after 0xCB. -/
def secondaryInstrsB : List Instr :=
  [.res6B, .res6C, .res6D, .res6E, .res6H, .res6L, .res6AtHl, .res6A,
   .res7B, .res7C, .res7D, .res7E, .res7H, .res7L, .res7AtHl, .res7A]

/-- Second bytes 0xC0 to 0xCF after 0xCB. -/
def secondaryInstrsC : List Instr :=
  [.set0B, .set0C, .set0D, .set0E, .set0H, .set0L, .set0AtHl, .set0A,
   .set1B, .set1C, .set1D, .set1E, .set1H, .set1L, .set1AtHl, .set1A]

/-- Second bytes 0xD0 to 0xDF after 0xCB. -/
def secondaryInstrsD : List Instr :=
  [.set2B, .set2C, .set2D, .set2E, .set2H, .set2L, .set2AtHl, .set2A,
   .set3B, .set3C, .set3D, .set3E, .set3H, .set3L, .set3AtHl, .set3A]

/-- Second bytes 0xE0 to 0xEF after 0xCB. -/
def secondaryInstrsE : List Instr :=
  [.set4B, .set4C, .set4D, .set4E, .set4H, .set4L, .set4AtHl, .set4A,
   .set5B, .set5C, .set5D, .set5E, .set5H, .set5L, .set5AtHl, .set5A]

/-- Second bytes 0xF0 to 0xFF after 0xCB. -/
def secondaryInstrsF : List Instr :=
  [.set6B, .set6C, .set6D, .set6E, .set6H, .set6L, .set6AtHl, .set6A,
   .set7B, .set7C, .set7D, .set7E, .set7H, .set7L, .set7AtHl, .set7A]

/-- The primary entries by high nibble. -/
def primaryRows : List (List Entry) :=
  [primaryEntries0, primaryEntries1, primaryEntries2, primaryEntries3, primaryEntries4, primaryEntries5, primaryEntries6, primaryEntries7,
   primaryEntries8, primaryEntries9, primaryEntriesA, primaryEntriesB, primaryEntriesC, primaryEntriesD, primaryEntriesE, primaryEntriesF]

/-- The secondary instructions by high nibble. -/
def secondaryRows : List (List Instr) :=
  [secondaryInstrs0, secondaryInstrs1, secondaryInstrs2, secondaryInstrs3, secondaryInstrs4, secondaryInstrs5, secondaryInstrs6, secondaryInstrs7,
   secondaryInstrs8, secondaryInstrs9, secondaryInstrsA, secondaryInstrsB, secondaryInstrsC, secondaryInstrsD, secondaryInstrsE, secondaryInstrsF]

/-- The primary entry of an opcode byte (R75, R160). The defaults are never met: there are 256 entries (U13). -/
def primaryEntry (b : Byte) : Entry :=
  (primaryRows.getD (b.toNat / 16) []).getD (b.toNat % 16) (.plain .undefD3)

/-- The instruction of a byte after 0xCB (R180). The defaults are never met (U13). -/
def secondaryInstr (b : Byte) : Instr :=
  (secondaryRows.getD (b.toNat / 16) []).getD (b.toNat % 16) .rlcB

/-! ## The decoder -/

/-- Why bytes hold no instruction: they end before the opcode, or before the operand its entry reads. -/
inductive DecodeError where
  | noOpcode
  | operandMissing (opcode : Byte)
deriving DecidableEq, Repr

/-- Reads one instruction from the front of `bytes`, in address order (R71). A 0xCB byte is joined to the byte
after it (R77, R84); where no byte follows, the one byte is the stand-alone marker that the primary table
gives it (R162). Assumption 9. -/
def decode : List Byte → Except DecodeError (Instr × List Byte)
  | [] => .error .noOpcode
  | b :: rest =>
    if b = 0xCB then
      match rest with
      | [] => .ok (.prefixCb, [])
      | b2 :: tail => .ok (secondaryInstr b2, tail)
    else
      match primaryEntry b, rest with
      | .plain i, tail => .ok (i, tail)
      | .imm8 mk, v :: tail => .ok (mk v, tail)
      | .imm16 mk, lo :: hi :: tail => .ok (mk (joinBytes hi lo), tail)
      | .addr16 mk, lo :: hi :: tail => .ok (mk (joinBytes hi lo), tail)
      | .rel8 mk, v :: tail => .ok (mk (signExtend8 v), tail)
      | .imm8 _, [] => .error (.operandMissing b)
      | .rel8 _, [] => .error (.operandMissing b)
      | .imm16 _, [] => .error (.operandMissing b)
      | .imm16 _, [_] => .error (.operandMissing b)
      | .addr16 _, [] => .error (.operandMissing b)
      | .addr16 _, [_] => .error (.operandMissing b)

/-- The length of the instruction that starts with byte `b` (R73, R77). Not used by the block: it is for callers
that walk a byte stream. -/
def instrLength (b : Byte) : Nat :=
  if b = 0xCB then 2 else 1 + (primaryEntry b).shape.operandBytes

/-! ## The encoder -/

/-- The bytes of an instruction, in address order (R71; each row's match and format). -/
def encode : Instr → List Byte
  | .nop => [0x00]
  | .ldBcD16 v => [0x01, lowByte v, highByte v]
  | .ldAtBcA => [0x02]
  | .incBc => [0x03]
  | .incB => [0x04]
  | .decB => [0x05]
  | .ldBD8 v => [0x06, v]
  | .rlca => [0x07]
  | .ldAtA16Sp a => [0x08, lowByte a, highByte a]
  | .addHlBc => [0x09]
  | .ldAAtBc => [0x0A]
  | .decBc => [0x0B]
  | .incC => [0x0C]
  | .decC => [0x0D]
  | .ldCD8 v => [0x0E, v]
  | .rrca => [0x0F]
  | .stop0 => [0x10]
  | .ldDeD16 v => [0x11, lowByte v, highByte v]
  | .ldAtDeA => [0x12]
  | .incDe => [0x13]
  | .incD => [0x14]
  | .decD => [0x15]
  | .ldDD8 v => [0x16, v]
  | .rla => [0x17]
  | .jrR8 d => [0x18, i8Byte d]
  | .addHlDe => [0x19]
  | .ldAAtDe => [0x1A]
  | .decDe => [0x1B]
  | .incE => [0x1C]
  | .decE => [0x1D]
  | .ldED8 v => [0x1E, v]
  | .rra => [0x1F]
  | .jrNzR8 d => [0x20, i8Byte d]
  | .ldHlD16 v => [0x21, lowByte v, highByte v]
  | .ldAtHlIncA => [0x22]
  | .incHl => [0x23]
  | .incH => [0x24]
  | .decH => [0x25]
  | .ldHD8 v => [0x26, v]
  | .daa => [0x27]
  | .jrZR8 d => [0x28, i8Byte d]
  | .addHlHl => [0x29]
  | .ldAAtHlInc => [0x2A]
  | .decHl => [0x2B]
  | .incL => [0x2C]
  | .decL => [0x2D]
  | .ldLD8 v => [0x2E, v]
  | .cpl => [0x2F]
  | .jrNcR8 d => [0x30, i8Byte d]
  | .ldSpD16 v => [0x31, lowByte v, highByte v]
  | .ldAtHlDecA => [0x32]
  | .incSp => [0x33]
  | .incAtHl => [0x34]
  | .decAtHl => [0x35]
  | .ldAtHlD8 v => [0x36, v]
  | .scf => [0x37]
  | .jrCR8 d => [0x38, i8Byte d]
  | .addHlSp => [0x39]
  | .ldAAtHlDec => [0x3A]
  | .decSp => [0x3B]
  | .incA => [0x3C]
  | .decA => [0x3D]
  | .ldAD8 v => [0x3E, v]
  | .ccf => [0x3F]
  | .ldBB => [0x40]
  | .ldBC => [0x41]
  | .ldBD => [0x42]
  | .ldBE => [0x43]
  | .ldBH => [0x44]
  | .ldBL => [0x45]
  | .ldBAtHl => [0x46]
  | .ldBA => [0x47]
  | .ldCB => [0x48]
  | .ldCC => [0x49]
  | .ldCD => [0x4A]
  | .ldCE => [0x4B]
  | .ldCH => [0x4C]
  | .ldCL => [0x4D]
  | .ldCAtHl => [0x4E]
  | .ldCA => [0x4F]
  | .ldDB => [0x50]
  | .ldDC => [0x51]
  | .ldDD => [0x52]
  | .ldDE => [0x53]
  | .ldDH => [0x54]
  | .ldDL => [0x55]
  | .ldDAtHl => [0x56]
  | .ldDA => [0x57]
  | .ldEB => [0x58]
  | .ldEC => [0x59]
  | .ldED => [0x5A]
  | .ldEE => [0x5B]
  | .ldEH => [0x5C]
  | .ldEL => [0x5D]
  | .ldEAtHl => [0x5E]
  | .ldEA => [0x5F]
  | .ldHB => [0x60]
  | .ldHC => [0x61]
  | .ldHD => [0x62]
  | .ldHE => [0x63]
  | .ldHH => [0x64]
  | .ldHL => [0x65]
  | .ldHAtHl => [0x66]
  | .ldHA => [0x67]
  | .ldLB => [0x68]
  | .ldLC => [0x69]
  | .ldLD => [0x6A]
  | .ldLE => [0x6B]
  | .ldLH => [0x6C]
  | .ldLL => [0x6D]
  | .ldLAtHl => [0x6E]
  | .ldLA => [0x6F]
  | .ldAtHlB => [0x70]
  | .ldAtHlC => [0x71]
  | .ldAtHlD => [0x72]
  | .ldAtHlE => [0x73]
  | .ldAtHlH => [0x74]
  | .ldAtHlL => [0x75]
  | .halt => [0x76]
  | .ldAtHlA => [0x77]
  | .ldAB => [0x78]
  | .ldAC => [0x79]
  | .ldAD => [0x7A]
  | .ldAE => [0x7B]
  | .ldAH => [0x7C]
  | .ldAL => [0x7D]
  | .ldAAtHl => [0x7E]
  | .ldAA => [0x7F]
  | .addAB => [0x80]
  | .addAC => [0x81]
  | .addAD => [0x82]
  | .addAE => [0x83]
  | .addAH => [0x84]
  | .addAL => [0x85]
  | .addAAtHl => [0x86]
  | .addAA => [0x87]
  | .adcAB => [0x88]
  | .adcAC => [0x89]
  | .adcAD => [0x8A]
  | .adcAE => [0x8B]
  | .adcAH => [0x8C]
  | .adcAL => [0x8D]
  | .adcAAtHl => [0x8E]
  | .adcAA => [0x8F]
  | .subB => [0x90]
  | .subC => [0x91]
  | .subD => [0x92]
  | .subE => [0x93]
  | .subH => [0x94]
  | .subL => [0x95]
  | .subAtHl => [0x96]
  | .subA => [0x97]
  | .sbcAB => [0x98]
  | .sbcAC => [0x99]
  | .sbcAD => [0x9A]
  | .sbcAE => [0x9B]
  | .sbcAH => [0x9C]
  | .sbcAL => [0x9D]
  | .sbcAAtHl => [0x9E]
  | .sbcAA => [0x9F]
  | .andB => [0xA0]
  | .andC => [0xA1]
  | .andD => [0xA2]
  | .andE => [0xA3]
  | .andH => [0xA4]
  | .andL => [0xA5]
  | .andAtHl => [0xA6]
  | .andA => [0xA7]
  | .xorB => [0xA8]
  | .xorC => [0xA9]
  | .xorD => [0xAA]
  | .xorE => [0xAB]
  | .xorH => [0xAC]
  | .xorL => [0xAD]
  | .xorAtHl => [0xAE]
  | .xorA => [0xAF]
  | .orB => [0xB0]
  | .orC => [0xB1]
  | .orD => [0xB2]
  | .orE => [0xB3]
  | .orH => [0xB4]
  | .orL => [0xB5]
  | .orAtHl => [0xB6]
  | .orA => [0xB7]
  | .cpB => [0xB8]
  | .cpC => [0xB9]
  | .cpD => [0xBA]
  | .cpE => [0xBB]
  | .cpH => [0xBC]
  | .cpL => [0xBD]
  | .cpAtHl => [0xBE]
  | .cpA => [0xBF]
  | .retNz => [0xC0]
  | .popBc => [0xC1]
  | .jpNzA16 a => [0xC2, lowByte a, highByte a]
  | .jpA16 a => [0xC3, lowByte a, highByte a]
  | .callNzA16 a => [0xC4, lowByte a, highByte a]
  | .pushBc => [0xC5]
  | .addAD8 v => [0xC6, v]
  | .rst00H => [0xC7]
  | .retZ => [0xC8]
  | .ret => [0xC9]
  | .jpZA16 a => [0xCA, lowByte a, highByte a]
  | .callZA16 a => [0xCC, lowByte a, highByte a]
  | .callA16 a => [0xCD, lowByte a, highByte a]
  | .adcAD8 v => [0xCE, v]
  | .rst08H => [0xCF]
  | .retNc => [0xD0]
  | .popDe => [0xD1]
  | .jpNcA16 a => [0xD2, lowByte a, highByte a]
  | .callNcA16 a => [0xD4, lowByte a, highByte a]
  | .pushDe => [0xD5]
  | .subD8 v => [0xD6, v]
  | .rst10H => [0xD7]
  | .retC => [0xD8]
  | .reti => [0xD9]
  | .jpCA16 a => [0xDA, lowByte a, highByte a]
  | .callCA16 a => [0xDC, lowByte a, highByte a]
  | .sbcAD8 v => [0xDE, v]
  | .rst18H => [0xDF]
  | .ldhAtA8A v => [0xE0, v]
  | .popHl => [0xE1]
  | .ldAtCA => [0xE2]
  | .pushHl => [0xE5]
  | .andD8 v => [0xE6, v]
  | .rst20H => [0xE7]
  | .addSpR8 d => [0xE8, i8Byte d]
  | .jpAtHl => [0xE9]
  | .ldAtA16A a => [0xEA, lowByte a, highByte a]
  | .xorD8 v => [0xEE, v]
  | .rst28H => [0xEF]
  | .ldhAAtA8 v => [0xF0, v]
  | .popAf => [0xF1]
  | .ldAAtC => [0xF2]
  | .di => [0xF3]
  | .pushAf => [0xF5]
  | .orD8 v => [0xF6, v]
  | .rst30H => [0xF7]
  | .ldHlSpPlusR8 d => [0xF8, i8Byte d]
  | .ldSpHl => [0xF9]
  | .ldAAtA16 a => [0xFA, lowByte a, highByte a]
  | .ei => [0xFB]
  | .cpD8 v => [0xFE, v]
  | .rst38H => [0xFF]
  | .prefixCb => [0xCB]
  | .undefD3 => [0xD3]
  | .undefDB => [0xDB]
  | .undefDD => [0xDD]
  | .undefE3 => [0xE3]
  | .undefE4 => [0xE4]
  | .undefEB => [0xEB]
  | .undefEC => [0xEC]
  | .undefED => [0xED]
  | .undefF4 => [0xF4]
  | .undefFC => [0xFC]
  | .undefFD => [0xFD]
  | .rlcB => [0xCB, 0x00]
  | .rlcC => [0xCB, 0x01]
  | .rlcD => [0xCB, 0x02]
  | .rlcE => [0xCB, 0x03]
  | .rlcH => [0xCB, 0x04]
  | .rlcL => [0xCB, 0x05]
  | .rlcAtHl => [0xCB, 0x06]
  | .rlcA => [0xCB, 0x07]
  | .rrcB => [0xCB, 0x08]
  | .rrcC => [0xCB, 0x09]
  | .rrcD => [0xCB, 0x0A]
  | .rrcE => [0xCB, 0x0B]
  | .rrcH => [0xCB, 0x0C]
  | .rrcL => [0xCB, 0x0D]
  | .rrcAtHl => [0xCB, 0x0E]
  | .rrcA => [0xCB, 0x0F]
  | .rlB => [0xCB, 0x10]
  | .rlC => [0xCB, 0x11]
  | .rlD => [0xCB, 0x12]
  | .rlE => [0xCB, 0x13]
  | .rlH => [0xCB, 0x14]
  | .rlL => [0xCB, 0x15]
  | .rlAtHl => [0xCB, 0x16]
  | .rlA => [0xCB, 0x17]
  | .rrB => [0xCB, 0x18]
  | .rrC => [0xCB, 0x19]
  | .rrD => [0xCB, 0x1A]
  | .rrE => [0xCB, 0x1B]
  | .rrH => [0xCB, 0x1C]
  | .rrL => [0xCB, 0x1D]
  | .rrAtHl => [0xCB, 0x1E]
  | .rrA => [0xCB, 0x1F]
  | .slaB => [0xCB, 0x20]
  | .slaC => [0xCB, 0x21]
  | .slaD => [0xCB, 0x22]
  | .slaE => [0xCB, 0x23]
  | .slaH => [0xCB, 0x24]
  | .slaL => [0xCB, 0x25]
  | .slaAtHl => [0xCB, 0x26]
  | .slaA => [0xCB, 0x27]
  | .sraB => [0xCB, 0x28]
  | .sraC => [0xCB, 0x29]
  | .sraD => [0xCB, 0x2A]
  | .sraE => [0xCB, 0x2B]
  | .sraH => [0xCB, 0x2C]
  | .sraL => [0xCB, 0x2D]
  | .sraAtHl => [0xCB, 0x2E]
  | .sraA => [0xCB, 0x2F]
  | .swapB => [0xCB, 0x30]
  | .swapC => [0xCB, 0x31]
  | .swapD => [0xCB, 0x32]
  | .swapE => [0xCB, 0x33]
  | .swapH => [0xCB, 0x34]
  | .swapL => [0xCB, 0x35]
  | .swapAtHl => [0xCB, 0x36]
  | .swapA => [0xCB, 0x37]
  | .srlB => [0xCB, 0x38]
  | .srlC => [0xCB, 0x39]
  | .srlD => [0xCB, 0x3A]
  | .srlE => [0xCB, 0x3B]
  | .srlH => [0xCB, 0x3C]
  | .srlL => [0xCB, 0x3D]
  | .srlAtHl => [0xCB, 0x3E]
  | .srlA => [0xCB, 0x3F]
  | .bit0B => [0xCB, 0x40]
  | .bit0C => [0xCB, 0x41]
  | .bit0D => [0xCB, 0x42]
  | .bit0E => [0xCB, 0x43]
  | .bit0H => [0xCB, 0x44]
  | .bit0L => [0xCB, 0x45]
  | .bit0AtHl => [0xCB, 0x46]
  | .bit0A => [0xCB, 0x47]
  | .bit1B => [0xCB, 0x48]
  | .bit1C => [0xCB, 0x49]
  | .bit1D => [0xCB, 0x4A]
  | .bit1E => [0xCB, 0x4B]
  | .bit1H => [0xCB, 0x4C]
  | .bit1L => [0xCB, 0x4D]
  | .bit1AtHl => [0xCB, 0x4E]
  | .bit1A => [0xCB, 0x4F]
  | .bit2B => [0xCB, 0x50]
  | .bit2C => [0xCB, 0x51]
  | .bit2D => [0xCB, 0x52]
  | .bit2E => [0xCB, 0x53]
  | .bit2H => [0xCB, 0x54]
  | .bit2L => [0xCB, 0x55]
  | .bit2AtHl => [0xCB, 0x56]
  | .bit2A => [0xCB, 0x57]
  | .bit3B => [0xCB, 0x58]
  | .bit3C => [0xCB, 0x59]
  | .bit3D => [0xCB, 0x5A]
  | .bit3E => [0xCB, 0x5B]
  | .bit3H => [0xCB, 0x5C]
  | .bit3L => [0xCB, 0x5D]
  | .bit3AtHl => [0xCB, 0x5E]
  | .bit3A => [0xCB, 0x5F]
  | .bit4B => [0xCB, 0x60]
  | .bit4C => [0xCB, 0x61]
  | .bit4D => [0xCB, 0x62]
  | .bit4E => [0xCB, 0x63]
  | .bit4H => [0xCB, 0x64]
  | .bit4L => [0xCB, 0x65]
  | .bit4AtHl => [0xCB, 0x66]
  | .bit4A => [0xCB, 0x67]
  | .bit5B => [0xCB, 0x68]
  | .bit5C => [0xCB, 0x69]
  | .bit5D => [0xCB, 0x6A]
  | .bit5E => [0xCB, 0x6B]
  | .bit5H => [0xCB, 0x6C]
  | .bit5L => [0xCB, 0x6D]
  | .bit5AtHl => [0xCB, 0x6E]
  | .bit5A => [0xCB, 0x6F]
  | .bit6B => [0xCB, 0x70]
  | .bit6C => [0xCB, 0x71]
  | .bit6D => [0xCB, 0x72]
  | .bit6E => [0xCB, 0x73]
  | .bit6H => [0xCB, 0x74]
  | .bit6L => [0xCB, 0x75]
  | .bit6AtHl => [0xCB, 0x76]
  | .bit6A => [0xCB, 0x77]
  | .bit7B => [0xCB, 0x78]
  | .bit7C => [0xCB, 0x79]
  | .bit7D => [0xCB, 0x7A]
  | .bit7E => [0xCB, 0x7B]
  | .bit7H => [0xCB, 0x7C]
  | .bit7L => [0xCB, 0x7D]
  | .bit7AtHl => [0xCB, 0x7E]
  | .bit7A => [0xCB, 0x7F]
  | .res0B => [0xCB, 0x80]
  | .res0C => [0xCB, 0x81]
  | .res0D => [0xCB, 0x82]
  | .res0E => [0xCB, 0x83]
  | .res0H => [0xCB, 0x84]
  | .res0L => [0xCB, 0x85]
  | .res0AtHl => [0xCB, 0x86]
  | .res0A => [0xCB, 0x87]
  | .res1B => [0xCB, 0x88]
  | .res1C => [0xCB, 0x89]
  | .res1D => [0xCB, 0x8A]
  | .res1E => [0xCB, 0x8B]
  | .res1H => [0xCB, 0x8C]
  | .res1L => [0xCB, 0x8D]
  | .res1AtHl => [0xCB, 0x8E]
  | .res1A => [0xCB, 0x8F]
  | .res2B => [0xCB, 0x90]
  | .res2C => [0xCB, 0x91]
  | .res2D => [0xCB, 0x92]
  | .res2E => [0xCB, 0x93]
  | .res2H => [0xCB, 0x94]
  | .res2L => [0xCB, 0x95]
  | .res2AtHl => [0xCB, 0x96]
  | .res2A => [0xCB, 0x97]
  | .res3B => [0xCB, 0x98]
  | .res3C => [0xCB, 0x99]
  | .res3D => [0xCB, 0x9A]
  | .res3E => [0xCB, 0x9B]
  | .res3H => [0xCB, 0x9C]
  | .res3L => [0xCB, 0x9D]
  | .res3AtHl => [0xCB, 0x9E]
  | .res3A => [0xCB, 0x9F]
  | .res4B => [0xCB, 0xA0]
  | .res4C => [0xCB, 0xA1]
  | .res4D => [0xCB, 0xA2]
  | .res4E => [0xCB, 0xA3]
  | .res4H => [0xCB, 0xA4]
  | .res4L => [0xCB, 0xA5]
  | .res4AtHl => [0xCB, 0xA6]
  | .res4A => [0xCB, 0xA7]
  | .res5B => [0xCB, 0xA8]
  | .res5C => [0xCB, 0xA9]
  | .res5D => [0xCB, 0xAA]
  | .res5E => [0xCB, 0xAB]
  | .res5H => [0xCB, 0xAC]
  | .res5L => [0xCB, 0xAD]
  | .res5AtHl => [0xCB, 0xAE]
  | .res5A => [0xCB, 0xAF]
  | .res6B => [0xCB, 0xB0]
  | .res6C => [0xCB, 0xB1]
  | .res6D => [0xCB, 0xB2]
  | .res6E => [0xCB, 0xB3]
  | .res6H => [0xCB, 0xB4]
  | .res6L => [0xCB, 0xB5]
  | .res6AtHl => [0xCB, 0xB6]
  | .res6A => [0xCB, 0xB7]
  | .res7B => [0xCB, 0xB8]
  | .res7C => [0xCB, 0xB9]
  | .res7D => [0xCB, 0xBA]
  | .res7E => [0xCB, 0xBB]
  | .res7H => [0xCB, 0xBC]
  | .res7L => [0xCB, 0xBD]
  | .res7AtHl => [0xCB, 0xBE]
  | .res7A => [0xCB, 0xBF]
  | .set0B => [0xCB, 0xC0]
  | .set0C => [0xCB, 0xC1]
  | .set0D => [0xCB, 0xC2]
  | .set0E => [0xCB, 0xC3]
  | .set0H => [0xCB, 0xC4]
  | .set0L => [0xCB, 0xC5]
  | .set0AtHl => [0xCB, 0xC6]
  | .set0A => [0xCB, 0xC7]
  | .set1B => [0xCB, 0xC8]
  | .set1C => [0xCB, 0xC9]
  | .set1D => [0xCB, 0xCA]
  | .set1E => [0xCB, 0xCB]
  | .set1H => [0xCB, 0xCC]
  | .set1L => [0xCB, 0xCD]
  | .set1AtHl => [0xCB, 0xCE]
  | .set1A => [0xCB, 0xCF]
  | .set2B => [0xCB, 0xD0]
  | .set2C => [0xCB, 0xD1]
  | .set2D => [0xCB, 0xD2]
  | .set2E => [0xCB, 0xD3]
  | .set2H => [0xCB, 0xD4]
  | .set2L => [0xCB, 0xD5]
  | .set2AtHl => [0xCB, 0xD6]
  | .set2A => [0xCB, 0xD7]
  | .set3B => [0xCB, 0xD8]
  | .set3C => [0xCB, 0xD9]
  | .set3D => [0xCB, 0xDA]
  | .set3E => [0xCB, 0xDB]
  | .set3H => [0xCB, 0xDC]
  | .set3L => [0xCB, 0xDD]
  | .set3AtHl => [0xCB, 0xDE]
  | .set3A => [0xCB, 0xDF]
  | .set4B => [0xCB, 0xE0]
  | .set4C => [0xCB, 0xE1]
  | .set4D => [0xCB, 0xE2]
  | .set4E => [0xCB, 0xE3]
  | .set4H => [0xCB, 0xE4]
  | .set4L => [0xCB, 0xE5]
  | .set4AtHl => [0xCB, 0xE6]
  | .set4A => [0xCB, 0xE7]
  | .set5B => [0xCB, 0xE8]
  | .set5C => [0xCB, 0xE9]
  | .set5D => [0xCB, 0xEA]
  | .set5E => [0xCB, 0xEB]
  | .set5H => [0xCB, 0xEC]
  | .set5L => [0xCB, 0xED]
  | .set5AtHl => [0xCB, 0xEE]
  | .set5A => [0xCB, 0xEF]
  | .set6B => [0xCB, 0xF0]
  | .set6C => [0xCB, 0xF1]
  | .set6D => [0xCB, 0xF2]
  | .set6E => [0xCB, 0xF3]
  | .set6H => [0xCB, 0xF4]
  | .set6L => [0xCB, 0xF5]
  | .set6AtHl => [0xCB, 0xF6]
  | .set6A => [0xCB, 0xF7]
  | .set7B => [0xCB, 0xF8]
  | .set7C => [0xCB, 0xF9]
  | .set7D => [0xCB, 0xFA]
  | .set7E => [0xCB, 0xFB]
  | .set7H => [0xCB, 0xFC]
  | .set7L => [0xCB, 0xFD]
  | .set7AtHl => [0xCB, 0xFE]
  | .set7A => [0xCB, 0xFF]

/-! ## The host's words -/

/-- The bytes of the instruction whose bits are `w`, numbered as spec/opcode_table.json numbers them: a primary
row's byte is bits 7..0 and its operand bytes count on from it; a CB row's match is `0xCBxx`, so its first byte
is bits 15..8. A row of 8 bits that is 0xCB is the stand-alone marker alone, with no byte after it (R162). The
bits above `nbits` are 0, up to the longest instruction, three bytes. Assumption 10. -/
def tableBytes (nbits w : Nat) : List Byte :=
  if nbits ≤ 8 ∧ w % 256 = 0xCB then [0xCB]
  else if 8 < nbits ∧ nbits ≤ 16 ∧ w / 256 % 256 = 0xCB then [0xCB, BitVec.ofNat 8 w, 0]
  else [BitVec.ofNat 8 w, BitVec.ofNat 8 (w / 256), BitVec.ofNat 8 (w / 65536)]

/-- The instruction the decoder reads from the word `w` of the opcode table. -/
def decodeTableWord (nbits w : Nat) : Option Instr :=
  match decode (tableBytes nbits w) with
  | .ok (i, _) => some i
  | .error _ => none

end Sys2Proof
end

