-- ==== Sys2Proof/Machine/State.lean ====
section
/-! DEFINITION. The state of the block and of what it is wired to. The block's own state is the register
file (10_state.md R20 to R25, R35); its template tables are constants (R26). The other fields are the inputs
R29 and R64 name (memory as the bus answers it, the parameters, the calls the callers make) and the outputs
R85, R52 and R312 name (the value returned, the reads made, the lines emitted). -/

namespace Sys2Proof.Machine

/-- The six register pairs (R20). -/
inductive Pair where
  | af | bc | de | hl | sp | pc
deriving DecidableEq, Repr

/-- The four flags (R24). -/
inductive Flag where
  | z | n | h | c
deriving DecidableEq, Repr

/-- The register file (R20, R25): "an explicitly owned structure" (R6). AF holds A in its high byte and F in its
low byte; bits 3..0 of F are zero in every state a run reaches (R23). -/
structure RegFile where
  af : Word
  bc : Word
  de : Word
  hl : Word
  sp : Word
  pc : Word
  running : Bool
deriving DecidableEq, Repr

/-- The register file right after construction (R34, R430), for a value of `BC_RESET`. -/
def RegFile.reset (bcReset : Word) : RegFile where
  af := 0x1100
  bc := bcReset
  de := 0xFF56
  hl := 0x000D
  sp := 0xFFFE
  pc := 0x0100
  running := false

/-- The five diagnostic toggles of a trace call (R301). -/
structure TraceOptions where
  showAddress        : Bool
  showFlags          : Bool
  showCycles         : Bool
  showJoypadRegister : Bool
  showTimerRegisters : Bool
deriving DecidableEq, Repr

/-- "Default (all absent)" (R316). -/
def TraceOptions.off : TraceOptions where
  showAddress := false
  showFlags := false
  showCycles := false
  showJoypadRegister := false
  showTimerRegisters := false

/-- What the outside asks for, one transaction each: the interface operations of R85, the renderer of R145, and one
event that is not the block's, a byte the execution engine stores through the memory bus (R62). -/
inductive Request where
  | get16 (p : Pair)
  | set16 (p : Pair) (v : Word)
  | getHigh (p : Pair)
  | setHigh (p : Pair) (v : Byte)
  | getLow (p : Pair)
  | setLow (p : Pair) (v : Byte)
  | getRunning
  | setRunning (v : Bool)
  | setFlag (f : Flag) (v : Bool)
  | getFlag (f : Flag)
  | readImmediate16
  | readImmediate8
  | readAddress16
  | readSignedRelative8
  | renderOperand (o : Operand)
  | decodePrimary (b : Byte)
  | decodeSecondary (b : Byte)
  | formatLine (options : TraceOptions) (cycles : Cycles)
  | construct
  | busStore (a : Word) (v : Byte)
deriving DecidableEq, Repr

/-- The value an operation returns (the result column of R85). -/
inductive Ret where
  | unit
  | u16 (v : Word)
  | u8 (v : Byte)
  | i8 (d : Int)
  | bool (v : Bool)
  | template (t : Template)
  | text (line : String)
deriving DecidableEq, Repr

/-- The two reporting severities of the system outside the block (R405). -/
inductive Severity where
  | warning
  | fatal
deriving DecidableEq, Repr

/-- One call of a reporting sink (R405). The block makes none. -/
structure Report where
  severity : Severity
  message  : String
deriving DecidableEq, Repr

/-- The memory cells the bus answers with a known byte: addresses strictly rising (see `Memory.wf`). -/
abbrev Memory := List Host.Cell

/-- The state: the register file, and the block's inputs and outputs as plain data. -/
structure State where
  /-- The register file: the only mutable state of the block (R1, R28). -/
  regs     : RegFile
  /-- The parameters this block was built with; nothing writes them. -/
  params   : Params
  /-- The bytes the memory bus is known to answer, by address (R50). The block never writes them (R51). -/
  mem      : Memory
  /-- Bytes the bus will answer to the coming reads whatever their address, oldest first (R64: reads of one address
  may differ). Empty where the environment dictates nothing. Assumption 5. -/
  answers  : List Byte
  /-- The address of every read made so far, oldest first (R52, R58): the history of R64. -/
  reads    : List Word
  /-- The calls the callers have made and the block has not begun, oldest first (R59, R438). Assumption 7. -/
  requests : List Request
  /-- The diagnostic fields gathered so far by the trace call in progress (R302); empty between calls (R28). -/
  fields   : List String
  /-- The lines handed to the diagnostic sink, oldest first (R312). -/
  sink     : List String
  /-- The calls made of the reporting sinks, oldest first (R405). -/
  reports  : List Report
  /-- The value the last operation returned (R85); the model's own field. Assumption 8. -/
  ret      : Ret
deriving DecidableEq, Repr

/-- The machine right after construction (R34, R430, R433): the register file at its reset values, no call waiting,
nothing read, nothing emitted, and no byte of memory known. Assumptions 1 and 8. -/
def State.reset : State where
  regs := RegFile.reset Config.bcReset
  params := Params.default
  mem := []
  answers := []
  reads := []
  requests := []
  fields := []
  sink := []
  reports := []
  ret := .unit

/-- There is no fault: "No operation of the block raises an exception" (R400), so nobody raises one and the type
has no constructor. That is the block's own totality and neither safe nor unsafe: no stop is hidden by it. -/
inductive Fault where
deriving DecidableEq, Repr

/-- Why a step gives no meaning. -/
inductive Refusal where
  /-- Raised by an arm of `exec` for an instruction without a meaning. Safe. No arm raises it: every instruction has
  its meaning. -/
  | notModelled (mnemonic : String)
deriving DecidableEq, Repr

/-- The outcome of an operation. -/
abbrev Result := Host.Outcome State Fault Refusal

end Sys2Proof.Machine
end

