-- ==== Sys2Proof/Machine/Ops.lean ====
section
/-! DEFINITION. The named operations over memory and registers: the memory list, one read of the bus
(20_memory.md), the register views (40_register_access.md), and what every operation does with its result.
The block takes no exception and returns from none (60_exceptions.md R400, R403): there is no such operation. -/

namespace Sys2Proof.Machine

/-! ## Memory -/

/-- The byte listed for an address. -/
def Memory.get? : Memory → Nat → Option Byte
  | [], _ => none
  | (b, w) :: m, a => if b = a then some w else Memory.get? m a

/-- Lists the byte `v` for the address `a`, keeping the addresses rising. No listed byte is redundant, since an
unlisted address has no fixed byte, so nothing is ever left out. -/
def Memory.set : Memory → Nat → Byte → Memory
  | [], a, v => [(a, v)]
  | (b, w) :: m, a, v =>
    if a < b then (a, v) :: (b, w) :: m
    else if a = b then (a, v) :: m
    else (b, w) :: Memory.set m a v

/-- The addresses are rising, at least `lo`, and inside the 16-bit space (R50). -/
def Memory.wfFrom : Nat → Memory → Bool
  | _, [] => true
  | lo, (a, _) :: m => decide (lo ≤ a) && decide (a < 65536) && Memory.wfFrom (a + 1) m

/-- The canonical form of a memory list. -/
def Memory.wf (m : Memory) : Bool := Memory.wfFrom 0 m

/-- Lists bytes at consecutive addresses from `a`, modulo 65536 (R57). -/
def Memory.place : Memory → Word → List Byte → Memory
  | m, _, [] => m
  | m, a, v :: vs => Memory.place (Memory.set m a.toNat v) (a + 1) vs

/-- What an unlisted address answers: the read oracle on the history so far (R64). -/
def State.unlistedByte (s : State) (a : Word) : Byte := Config.busByte s.reads a

/-- The byte the bus answers to the next read, when that read is at `a` (R50, R59, R64). -/
def State.busAnswer (s : State) (a : Word) : Byte :=
  match s.answers with
  | b :: _ => b
  | [] =>
    match s.mem.get? a.toNat with
    | some b => b
    | none => s.unlistedByte a

/-- The state after a read at `a`: the read is counted (R52) and a dictated answer is used up. -/
def State.afterRead (s : State) (a : Word) : State :=
  { s with reads := s.reads ++ [a], answers := s.answers.tail }

/-- `MemRead(a, 1)`: one single-byte read (R53). -/
def State.memRead (s : State) (a : Word) : Byte × State := (s.busAnswer a, s.afterRead a)

/-! ## Results and lines -/

/-- An operation returns a value to its caller. -/
def State.returns (s : State) (v : Ret) : State := { s with ret := v }

/-- The register file is replaced. -/
def State.setRegs (s : State) (r : RegFile) : State := { s with regs := r }

/-- A line goes to the diagnostic sink, "the same string is emitted ... and returned" (R312), and the call ends
with no field retained (R28). -/
def State.emitLine (s : State) (line : String) : State :=
  { s with sink := s.sink ++ [line], ret := .text line, fields := [] }

/-! ## The register file -/

/-- `x[P]`: the stored pair. -/
def RegFile.get16 (r : RegFile) : Pair → Word
  | .af => r.af
  | .bc => r.bc
  | .de => r.de
  | .hl => r.hl
  | .sp => r.sp
  | .pc => r.pc

/-- `x[P] <- v`: only the storage of the pair P changes (R22). -/
def RegFile.store (r : RegFile) (p : Pair) (v : Word) : RegFile :=
  match p with
  | .af => { r with af := v }
  | .bc => { r with bc := v }
  | .de => { r with de := v }
  | .hl => { r with hl := v }
  | .sp => { r with sp := v }
  | .pc => { r with pc := v }

/-- The write of R101: bits 3..0 of F are discarded (R23). -/
def RegFile.set16 (r : RegFile) (p : Pair) (v : Word) : RegFile :=
  match p with
  | .af => r.store .af (v &&& 0xFFF0)
  | .bc => r.store .bc v
  | .de => r.store .de v
  | .hl => r.store .hl v
  | .sp => r.store .sp v
  | .pc => r.store .pc v

/-- `x[P][15:8]` (R102). -/
def RegFile.getHigh (r : RegFile) (p : Pair) : Byte := highByte (r.get16 p)

/-- `x[P] <- (v << 8) | x[P][7:0]` (R103). -/
def RegFile.setHigh (r : RegFile) (p : Pair) (v : Byte) : RegFile :=
  r.store p (joinBytes v (lowByte (r.get16 p)))

/-- `x[P][7:0]` (R104). -/
def RegFile.getLow (r : RegFile) (p : Pair) : Byte := lowByte (r.get16 p)

/-- The byte that a write of a low half stores: bits 3..0 of F are discarded (R23, R105). -/
def lowStored (p : Pair) (v : Byte) : Byte :=
  match p with
  | .af => v &&& 0xF0
  | .bc => v
  | .de => v
  | .hl => v
  | .sp => v
  | .pc => v

/-- The write of R105. -/
def RegFile.setLow (r : RegFile) (p : Pair) (v : Byte) : RegFile :=
  r.store p (joinBytes (highByte (r.get16 p)) (lowStored p v))

/-! ## The register file's interface operations -/

/-- R100. -/
def opGet16 (p : Pair) (s : State) : Result := .next (s.returns (.u16 (s.regs.get16 p)))

/-- R101. -/
def opSet16 (p : Pair) (v : Word) (s : State) : Result :=
  .next ((s.setRegs (s.regs.set16 p v)).returns .unit)

/-- R102. -/
def opGetHigh (p : Pair) (s : State) : Result := .next (s.returns (.u8 (s.regs.getHigh p)))

/-- R103. -/
def opSetHigh (p : Pair) (v : Byte) (s : State) : Result :=
  .next ((s.setRegs (s.regs.setHigh p v)).returns .unit)

/-- R104. -/
def opGetLow (p : Pair) (s : State) : Result := .next (s.returns (.u8 (s.regs.getLow p)))

/-- R105. -/
def opSetLow (p : Pair) (v : Byte) (s : State) : Result :=
  .next ((s.setRegs (s.regs.setLow p v)).returns .unit)

/-- R106. -/
def opGetRunning (s : State) : Result := .next (s.returns (.bool s.regs.running))

/-- R107. -/
def opSetRunning (v : Bool) (s : State) : Result :=
  .next ((s.setRegs { s.regs with running := v }).returns .unit)

/-- Construction, the only reset (R430, D26): the whole register file takes its reset values. -/
def opConstruct (s : State) : Result :=
  .next ((s.setRegs (RegFile.reset s.params.bcReset)).returns .unit)

/-- A store the execution engine makes between calls, answered by the bus from then on (R62). No operation of the
block; it returns nothing to a caller of the block. Assumption 11. -/
def opBusStore (a : Word) (v : Byte) (s : State) : Result :=
  .next { s with mem := s.mem.set a.toNat v }

end Sys2Proof.Machine
end

