-- ==== Sys2Proof/Machine/Flags.lean ====
section
/-! DEFINITION. The flags accessor (41_flags_access.md) and the flag field of a trace line (47_trace_emitter.md
R306). The block computes no flag from data: flag results are execution, which is out of scope (R3, R24). -/

namespace Sys2Proof.Machine

/-- `pos(f)`: the fixed bit position in F, and so in AF (R120). -/
def Flag.pos : Flag → Nat
  | .z => 7
  | .n => 6
  | .h => 5
  | .c => 4

/-- `1 << pos(f)` as a byte (R121). -/
def Flag.mask (f : Flag) : Byte := (1 : Byte) <<< f.pos

/-- The F byte after one flag is set or cleared (R121). -/
def flagByte (f : Flag) (v : Bool) (old : Byte) : Byte :=
  (old &&& ~~~ f.mask) ||| (if v then f.mask else 0)

/-- The write of R121. -/
def RegFile.setFlag (r : RegFile) (f : Flag) (v : Bool) : RegFile :=
  r.store .af (joinBytes (highByte r.af) (flagByte f v (lowByte r.af)))

/-- `x[AF][pos(f)] = 1` (R122). -/
def RegFile.getFlag (r : RegFile) (f : Flag) : Bool := r.af.getLsbD f.pos

/-- R121. -/
def opSetFlag (f : Flag) (v : Bool) (s : State) : Result :=
  .next ((s.setRegs (s.regs.setFlag f v)).returns .unit)

/-- R122. -/
def opGetFlag (f : Flag) (s : State) : Result := .next (s.returns (.bool (s.regs.getFlag f)))

/-- One character of the flag field: `1` when set and `0` when clear (R306). -/
def flagChar (v : Bool) : String := if v then "1" else "0"

/-- Z, N, H, C in that order with no separator (R306). -/
def flagSummary (r : RegFile) : String :=
  flagChar (r.getFlag .z) ++ flagChar (r.getFlag .n) ++ flagChar (r.getFlag .h) ++ flagChar (r.getFlag .c)

end Sys2Proof.Machine
end

