-- ==== Sys2Proof/Machine/Operands.lean ====
section
/-! DEFINITION. The operand formatter (42_operand_formatter.md): the four readers, relative to the
not-yet-advanced PC and modulo 65536 (R57), and the renderer. -/

namespace Sys2Proof.Machine

/-! ## Readers -/

/-- The byte at PC+1 (R142). Returns the value and the state after the one read. -/
def readImmediate8 (s : State) : Byte × State := s.memRead (s.regs.pc + 1)

/-- The bytes at PC+1 (low, read first) and PC+2 (high) (R141, R54, R58). -/
def readImmediate16 (s : State) : Word × State :=
  let lo := s.memRead (s.regs.pc + 1)
  let hi := lo.2.memRead (s.regs.pc + 2)
  (joinBytes hi.1 lo.1, hi.2)

/-- "Identical algorithm to readImmediate16" (R143). -/
def readAddress16 (s : State) : Word × State := readImmediate16 s

/-- The byte at PC+1 as an `i8` (R144). -/
def readSignedRelative8 (s : State) : Int × State :=
  let v := s.memRead (s.regs.pc + 1)
  (signExtend8 v.1, v.2)

/-! ## Rendering -/

/-- One lower-case digit (R146). -/
def digitChar (d : Nat) : Char := Char.ofNat (if d < 10 then 48 + d else 87 + d)

/-- The digits of `n`, most significant first, put before `acc`; `fuel` bounds their number. -/
def digitsOnto (base : Nat) : Nat → Nat → List Char → List Char
  | 0, _, acc => acc
  | fuel + 1, n, acc =>
    if n < base then digitChar n :: acc
    else digitsOnto base fuel (n / base) (digitChar (n % base) :: acc)

/-- The digits of `n` with no leading zeros, and `0` for 0. A number has at most `n + 1` digits. -/
def digits (base n : Nat) : List Char := digitsOnto base (n + 1) n []

/-- `hex(v)` (R146). -/
def hex (v : Nat) : String := "0x" ++ String.ofList (digits 16 v)

/-- `decNat(v)` (R307): unsigned decimal with no padding. -/
def decNat (v : Nat) : String := String.ofList (digits 10 v)

/-- `dec(v)` (R147): a leading `-` when negative, no sign otherwise. -/
def dec (v : Int) : String := if v < 0 then "-" ++ decNat v.natAbs else decNat v.natAbs

/-- `renderOperand(shape, v)` (R145). -/
def renderOperand : Operand → String
  | .none => ""
  | .imm8 v => hex v.toNat
  | .imm16 v => hex v.toNat
  | .addr16 a => hex a.toNat
  | .rel8 d => dec d

/-! ## The formatter's interface operations -/

/-- R141. -/
def opReadImmediate16 (s : State) : Result :=
  let r := readImmediate16 s
  .next (r.2.returns (.u16 r.1))

/-- R142. -/
def opReadImmediate8 (s : State) : Result :=
  let r := readImmediate8 s
  .next (r.2.returns (.u8 r.1))

/-- R143. -/
def opReadAddress16 (s : State) : Result :=
  let r := readAddress16 s
  .next (r.2.returns (.u16 r.1))

/-- R144. -/
def opReadSignedRelative8 (s : State) : Result :=
  let r := readSignedRelative8 s
  .next (r.2.returns (.i8 r.1))

/-- R145. -/
def opRenderOperand (o : Operand) (s : State) : Result := .next (s.returns (.text (renderOperand o)))

end Sys2Proof.Machine
end

