-- ==== Sys2Proof/Machine/PrimaryTable.lean ====
section
/-! DEFINITION. The primary opcode table as data, one template per byte value (43_primary_00_7F.md,
44_primary_80_FF.md R160 to R164, R1000 to R1255; R6). The texts other than those of 0x21, 0xCB and the eleven
undefined bytes are the public opcode reference's, as the spec takes them (93 G4). Assumption 12. -/

namespace Sys2Proof.Machine

/-- Bytes 0x00 to 0x0F: R1000 to R1015. -/
def primaryTemplates0 : List Template :=
  [⟨"NOP", .none⟩, ⟨"LD BC, d16", .imm16⟩, ⟨"LD (BC), A", .none⟩, ⟨"INC BC", .none⟩,
   ⟨"INC B", .none⟩, ⟨"DEC B", .none⟩, ⟨"LD B, d8", .imm8⟩, ⟨"RLCA", .none⟩,
   ⟨"LD (a16), SP", .addr16⟩, ⟨"ADD HL, BC", .none⟩, ⟨"LD A, (BC)", .none⟩, ⟨"DEC BC", .none⟩,
   ⟨"INC C", .none⟩, ⟨"DEC C", .none⟩, ⟨"LD C, d8", .imm8⟩, ⟨"RRCA", .none⟩]

/-- Bytes 0x10 to 0x1F: R1016 to R1031. -/
def primaryTemplates1 : List Template :=
  [⟨"STOP 0", .none⟩, ⟨"LD DE, d16", .imm16⟩, ⟨"LD (DE), A", .none⟩, ⟨"INC DE", .none⟩,
   ⟨"INC D", .none⟩, ⟨"DEC D", .none⟩, ⟨"LD D, d8", .imm8⟩, ⟨"RLA", .none⟩,
   ⟨"JR r8", .rel8⟩, ⟨"ADD HL, DE", .none⟩, ⟨"LD A, (DE)", .none⟩, ⟨"DEC DE", .none⟩,
   ⟨"INC E", .none⟩, ⟨"DEC E", .none⟩, ⟨"LD E, d8", .imm8⟩, ⟨"RRA", .none⟩]

/-- Bytes 0x20 to 0x2F: R1032 to R1047. -/
def primaryTemplates2 : List Template :=
  [⟨"JR NZ, r8", .rel8⟩, ⟨"LD HL, d16", .imm16⟩, ⟨"LD (HL+), A", .none⟩, ⟨"INC HL", .none⟩,
   ⟨"INC H", .none⟩, ⟨"DEC H", .none⟩, ⟨"LD H, d8", .imm8⟩, ⟨"DAA", .none⟩,
   ⟨"JR Z, r8", .rel8⟩, ⟨"ADD HL, HL", .none⟩, ⟨"LD A, (HL+)", .none⟩, ⟨"DEC HL", .none⟩,
   ⟨"INC L", .none⟩, ⟨"DEC L", .none⟩, ⟨"LD L, d8", .imm8⟩, ⟨"CPL", .none⟩]

/-- Bytes 0x30 to 0x3F: R1048 to R1063. -/
def primaryTemplates3 : List Template :=
  [⟨"JR NC, r8", .rel8⟩, ⟨"LD SP, d16", .imm16⟩, ⟨"LD (HL-), A", .none⟩, ⟨"INC SP", .none⟩,
   ⟨"INC (HL)", .none⟩, ⟨"DEC (HL)", .none⟩, ⟨"LD (HL), d8", .imm8⟩, ⟨"SCF", .none⟩,
   ⟨"JR C, r8", .rel8⟩, ⟨"ADD HL, SP", .none⟩, ⟨"LD A, (HL-)", .none⟩, ⟨"DEC SP", .none⟩,
   ⟨"INC A", .none⟩, ⟨"DEC A", .none⟩, ⟨"LD A, d8", .imm8⟩, ⟨"CCF", .none⟩]

/-- Bytes 0x40 to 0x4F: R1064 to R1079. -/
def primaryTemplates4 : List Template :=
  [⟨"LD B, B", .none⟩, ⟨"LD B, C", .none⟩, ⟨"LD B, D", .none⟩, ⟨"LD B, E", .none⟩,
   ⟨"LD B, H", .none⟩, ⟨"LD B, L", .none⟩, ⟨"LD B, (HL)", .none⟩, ⟨"LD B, A", .none⟩,
   ⟨"LD C, B", .none⟩, ⟨"LD C, C", .none⟩, ⟨"LD C, D", .none⟩, ⟨"LD C, E", .none⟩,
   ⟨"LD C, H", .none⟩, ⟨"LD C, L", .none⟩, ⟨"LD C, (HL)", .none⟩, ⟨"LD C, A", .none⟩]

/-- Bytes 0x50 to 0x5F: R1080 to R1095. -/
def primaryTemplates5 : List Template :=
  [⟨"LD D, B", .none⟩, ⟨"LD D, C", .none⟩, ⟨"LD D, D", .none⟩, ⟨"LD D, E", .none⟩,
   ⟨"LD D, H", .none⟩, ⟨"LD D, L", .none⟩, ⟨"LD D, (HL)", .none⟩, ⟨"LD D, A", .none⟩,
   ⟨"LD E, B", .none⟩, ⟨"LD E, C", .none⟩, ⟨"LD E, D", .none⟩, ⟨"LD E, E", .none⟩,
   ⟨"LD E, H", .none⟩, ⟨"LD E, L", .none⟩, ⟨"LD E, (HL)", .none⟩, ⟨"LD E, A", .none⟩]

/-- Bytes 0x60 to 0x6F: R1096 to R1111. -/
def primaryTemplates6 : List Template :=
  [⟨"LD H, B", .none⟩, ⟨"LD H, C", .none⟩, ⟨"LD H, D", .none⟩, ⟨"LD H, E", .none⟩,
   ⟨"LD H, H", .none⟩, ⟨"LD H, L", .none⟩, ⟨"LD H, (HL)", .none⟩, ⟨"LD H, A", .none⟩,
   ⟨"LD L, B", .none⟩, ⟨"LD L, C", .none⟩, ⟨"LD L, D", .none⟩, ⟨"LD L, E", .none⟩,
   ⟨"LD L, H", .none⟩, ⟨"LD L, L", .none⟩, ⟨"LD L, (HL)", .none⟩, ⟨"LD L, A", .none⟩]

/-- Bytes 0x70 to 0x7F: R1112 to R1127. -/
def primaryTemplates7 : List Template :=
  [⟨"LD (HL), B", .none⟩, ⟨"LD (HL), C", .none⟩, ⟨"LD (HL), D", .none⟩, ⟨"LD (HL), E", .none⟩,
   ⟨"LD (HL), H", .none⟩, ⟨"LD (HL), L", .none⟩, ⟨"HALT", .none⟩, ⟨"LD (HL), A", .none⟩,
   ⟨"LD A, B", .none⟩, ⟨"LD A, C", .none⟩, ⟨"LD A, D", .none⟩, ⟨"LD A, E", .none⟩,
   ⟨"LD A, H", .none⟩, ⟨"LD A, L", .none⟩, ⟨"LD A, (HL)", .none⟩, ⟨"LD A, A", .none⟩]

/-- Bytes 0x80 to 0x8F: R1128 to R1143. -/
def primaryTemplates8 : List Template :=
  [⟨"ADD A, B", .none⟩, ⟨"ADD A, C", .none⟩, ⟨"ADD A, D", .none⟩, ⟨"ADD A, E", .none⟩,
   ⟨"ADD A, H", .none⟩, ⟨"ADD A, L", .none⟩, ⟨"ADD A, (HL)", .none⟩, ⟨"ADD A, A", .none⟩,
   ⟨"ADC A, B", .none⟩, ⟨"ADC A, C", .none⟩, ⟨"ADC A, D", .none⟩, ⟨"ADC A, E", .none⟩,
   ⟨"ADC A, H", .none⟩, ⟨"ADC A, L", .none⟩, ⟨"ADC A, (HL)", .none⟩, ⟨"ADC A, A", .none⟩]

/-- Bytes 0x90 to 0x9F: R1144 to R1159. -/
def primaryTemplates9 : List Template :=
  [⟨"SUB B", .none⟩, ⟨"SUB C", .none⟩, ⟨"SUB D", .none⟩, ⟨"SUB E", .none⟩,
   ⟨"SUB H", .none⟩, ⟨"SUB L", .none⟩, ⟨"SUB (HL)", .none⟩, ⟨"SUB A", .none⟩,
   ⟨"SBC A, B", .none⟩, ⟨"SBC A, C", .none⟩, ⟨"SBC A, D", .none⟩, ⟨"SBC A, E", .none⟩,
   ⟨"SBC A, H", .none⟩, ⟨"SBC A, L", .none⟩, ⟨"SBC A, (HL)", .none⟩, ⟨"SBC A, A", .none⟩]

/-- Bytes 0xA0 to 0xAF: R1160 to R1175. -/
def primaryTemplatesA : List Template :=
  [⟨"AND B", .none⟩, ⟨"AND C", .none⟩, ⟨"AND D", .none⟩, ⟨"AND E", .none⟩,
   ⟨"AND H", .none⟩, ⟨"AND L", .none⟩, ⟨"AND (HL)", .none⟩, ⟨"AND A", .none⟩,
   ⟨"XOR B", .none⟩, ⟨"XOR C", .none⟩, ⟨"XOR D", .none⟩, ⟨"XOR E", .none⟩,
   ⟨"XOR H", .none⟩, ⟨"XOR L", .none⟩, ⟨"XOR (HL)", .none⟩, ⟨"XOR A", .none⟩]

/-- Bytes 0xB0 to 0xBF: R1176 to R1191. -/
def primaryTemplatesB : List Template :=
  [⟨"OR B", .none⟩, ⟨"OR C", .none⟩, ⟨"OR D", .none⟩, ⟨"OR E", .none⟩,
   ⟨"OR H", .none⟩, ⟨"OR L", .none⟩, ⟨"OR (HL)", .none⟩, ⟨"OR A", .none⟩,
   ⟨"CP B", .none⟩, ⟨"CP C", .none⟩, ⟨"CP D", .none⟩, ⟨"CP E", .none⟩,
   ⟨"CP H", .none⟩, ⟨"CP L", .none⟩, ⟨"CP (HL)", .none⟩, ⟨"CP A", .none⟩]

/-- Bytes 0xC0 to 0xCF: R1192 to R1207. -/
def primaryTemplatesC : List Template :=
  [⟨"RET NZ", .none⟩, ⟨"POP BC", .none⟩, ⟨"JP NZ, a16", .addr16⟩, ⟨"JP a16", .addr16⟩,
   ⟨"CALL NZ, a16", .addr16⟩, ⟨"PUSH BC", .none⟩, ⟨"ADD A, d8", .imm8⟩, ⟨"RST 00H", .none⟩,
   ⟨"RET Z", .none⟩, ⟨"RET", .none⟩, ⟨"JP Z, a16", .addr16⟩, ⟨"PREFIX CB", .none⟩,
   ⟨"CALL Z, a16", .addr16⟩, ⟨"CALL a16", .addr16⟩, ⟨"ADC A, d8", .imm8⟩, ⟨"RST 08H", .none⟩]

/-- Bytes 0xD0 to 0xDF: R1208 to R1223. -/
def primaryTemplatesD : List Template :=
  [⟨"RET NC", .none⟩, ⟨"POP DE", .none⟩, ⟨"JP NC, a16", .addr16⟩, ⟨"????", .none⟩,
   ⟨"CALL NC, a16", .addr16⟩, ⟨"PUSH DE", .none⟩, ⟨"SUB d8", .imm8⟩, ⟨"RST 10H", .none⟩,
   ⟨"RET C", .none⟩, ⟨"RETI", .none⟩, ⟨"JP C, a16", .addr16⟩, ⟨"????", .none⟩,
   ⟨"CALL C, a16", .addr16⟩, ⟨"????", .none⟩, ⟨"SBC A, d8", .imm8⟩, ⟨"RST 18H", .none⟩]

/-- Bytes 0xE0 to 0xEF: R1224 to R1239. -/
def primaryTemplatesE : List Template :=
  [⟨"LDH (a8), A", .imm8⟩, ⟨"POP HL", .none⟩, ⟨"LD (C), A", .none⟩, ⟨"????", .none⟩,
   ⟨"????", .none⟩, ⟨"PUSH HL", .none⟩, ⟨"AND d8", .imm8⟩, ⟨"RST 20H", .none⟩,
   ⟨"ADD SP, r8", .rel8⟩, ⟨"JP (HL)", .none⟩, ⟨"LD (a16), A", .addr16⟩, ⟨"????", .none⟩,
   ⟨"????", .none⟩, ⟨"????", .none⟩, ⟨"XOR d8", .imm8⟩, ⟨"RST 28H", .none⟩]

/-- Bytes 0xF0 to 0xFF: R1240 to R1255. -/
def primaryTemplatesF : List Template :=
  [⟨"LDH A, (a8)", .imm8⟩, ⟨"POP AF", .none⟩, ⟨"LD A, (C)", .none⟩, ⟨"DI", .none⟩,
   ⟨"????", .none⟩, ⟨"PUSH AF", .none⟩, ⟨"OR d8", .imm8⟩, ⟨"RST 30H", .none⟩,
   ⟨"LD HL, SP+r8", .rel8⟩, ⟨"LD SP, HL", .none⟩, ⟨"LD A, (a16)", .addr16⟩, ⟨"EI", .none⟩,
   ⟨"????", .none⟩, ⟨"????", .none⟩, ⟨"CP d8", .imm8⟩, ⟨"RST 38H", .none⟩]

/-- The rows of the table by high nibble. -/
def primaryTemplateRows : List (List Template) :=
  [primaryTemplates0, primaryTemplates1, primaryTemplates2, primaryTemplates3, primaryTemplates4, primaryTemplates5, primaryTemplates6, primaryTemplates7,
   primaryTemplates8, primaryTemplates9, primaryTemplatesA, primaryTemplatesB, primaryTemplatesC, primaryTemplatesD, primaryTemplatesE, primaryTemplatesF]

/-- `decodePrimary(b) = primary[b]`: total and pure (R160). The default is never met: there are 256 entries (U13). -/
def decodePrimary (b : Byte) : Template :=
  (primaryTemplateRows.getD (b.toNat / 16) []).getD (b.toNat % 16) ⟨"", .none⟩

end Sys2Proof.Machine
end

