-- ==== Sys2Proof/Machine/SecondaryTable.lean ====
section
/-! DEFINITION. The secondary (CB) opcode table as data, one template per byte after 0xCB (45_secondary_00_7F.md,
46_secondary_80_FF.md R180 to R184, R2000 to R2255; R6). The spellings of the rotates, shifts and SET are the
spec's own (D33). Assumption 12. -/

namespace Sys2Proof.Machine

/-- Bytes 0x00 to 0x0F: R2000 to R2015. -/
def secondaryTemplates0 : List Template :=
  [⟨"RLC B", .none⟩, ⟨"RLC C", .none⟩, ⟨"RLC D", .none⟩, ⟨"RLC E", .none⟩,
   ⟨"RLC H", .none⟩, ⟨"RLC L", .none⟩, ⟨"RLC (HL)", .none⟩, ⟨"RLC A", .none⟩,
   ⟨"RRC B", .none⟩, ⟨"RRC C", .none⟩, ⟨"RRC D", .none⟩, ⟨"RRC E", .none⟩,
   ⟨"RRC H", .none⟩, ⟨"RRC L", .none⟩, ⟨"RRC (HL)", .none⟩, ⟨"RRC A", .none⟩]

/-- Bytes 0x10 to 0x1F: R2016 to R2031. -/
def secondaryTemplates1 : List Template :=
  [⟨"RL B", .none⟩, ⟨"RL C", .none⟩, ⟨"RL D", .none⟩, ⟨"RL E", .none⟩,
   ⟨"RL H", .none⟩, ⟨"RL L", .none⟩, ⟨"RL (HL)", .none⟩, ⟨"RL A", .none⟩,
   ⟨"RR B", .none⟩, ⟨"RR C", .none⟩, ⟨"RR D", .none⟩, ⟨"RR E", .none⟩,
   ⟨"RR H", .none⟩, ⟨"RR L", .none⟩, ⟨"RR (HL)", .none⟩, ⟨"RR A", .none⟩]

/-- Bytes 0x20 to 0x2F: R2032 to R2047. -/
def secondaryTemplates2 : List Template :=
  [⟨"SLA B", .none⟩, ⟨"SLA C", .none⟩, ⟨"SLA D", .none⟩, ⟨"SLA E", .none⟩,
   ⟨"SLA H", .none⟩, ⟨"SLA L", .none⟩, ⟨"SLA (HL)", .none⟩, ⟨"SLA A", .none⟩,
   ⟨"SRA B", .none⟩, ⟨"SRA C", .none⟩, ⟨"SRA D", .none⟩, ⟨"SRA E", .none⟩,
   ⟨"SRA H", .none⟩, ⟨"SRA L", .none⟩, ⟨"SRA (HL)", .none⟩, ⟨"SRA A", .none⟩]

/-- Bytes 0x30 to 0x3F: R2048 to R2063. -/
def secondaryTemplates3 : List Template :=
  [⟨"SWAP B", .none⟩, ⟨"SWAP C", .none⟩, ⟨"SWAP D", .none⟩, ⟨"SWAP E", .none⟩,
   ⟨"SWAP H", .none⟩, ⟨"SWAP L", .none⟩, ⟨"SWAP (HL)", .none⟩, ⟨"SWAP A", .none⟩,
   ⟨"SRL B", .none⟩, ⟨"SRL C", .none⟩, ⟨"SRL D", .none⟩, ⟨"SRL E", .none⟩,
   ⟨"SRL H", .none⟩, ⟨"SRL L", .none⟩, ⟨"SRL (HL)", .none⟩, ⟨"SRL A", .none⟩]

/-- Bytes 0x40 to 0x4F: R2064 to R2079. -/
def secondaryTemplates4 : List Template :=
  [⟨"BIT 0, B", .none⟩, ⟨"BIT 0, C", .none⟩, ⟨"BIT 0, D", .none⟩, ⟨"BIT 0, E", .none⟩,
   ⟨"BIT 0, H", .none⟩, ⟨"BIT 0, L", .none⟩, ⟨"BIT 0, (HL)", .none⟩, ⟨"BIT 0, A", .none⟩,
   ⟨"BIT 1, B", .none⟩, ⟨"BIT 1, C", .none⟩, ⟨"BIT 1, D", .none⟩, ⟨"BIT 1, E", .none⟩,
   ⟨"BIT 1, H", .none⟩, ⟨"BIT 1, L", .none⟩, ⟨"BIT 1, (HL)", .none⟩, ⟨"BIT 1, A", .none⟩]

/-- Bytes 0x50 to 0x5F: R2080 to R2095. -/
def secondaryTemplates5 : List Template :=
  [⟨"BIT 2, B", .none⟩, ⟨"BIT 2, C", .none⟩, ⟨"BIT 2, D", .none⟩, ⟨"BIT 2, E", .none⟩,
   ⟨"BIT 2, H", .none⟩, ⟨"BIT 2, L", .none⟩, ⟨"BIT 2, (HL)", .none⟩, ⟨"BIT 2, A", .none⟩,
   ⟨"BIT 3, B", .none⟩, ⟨"BIT 3, C", .none⟩, ⟨"BIT 3, D", .none⟩, ⟨"BIT 3, E", .none⟩,
   ⟨"BIT 3, H", .none⟩, ⟨"BIT 3, L", .none⟩, ⟨"BIT 3, (HL)", .none⟩, ⟨"BIT 3, A", .none⟩]

/-- Bytes 0x60 to 0x6F: R2096 to R2111. -/
def secondaryTemplates6 : List Template :=
  [⟨"BIT 4, B", .none⟩, ⟨"BIT 4, C", .none⟩, ⟨"BIT 4, D", .none⟩, ⟨"BIT 4, E", .none⟩,
   ⟨"BIT 4, H", .none⟩, ⟨"BIT 4, L", .none⟩, ⟨"BIT 4, (HL)", .none⟩, ⟨"BIT 4, A", .none⟩,
   ⟨"BIT 5, B", .none⟩, ⟨"BIT 5, C", .none⟩, ⟨"BIT 5, D", .none⟩, ⟨"BIT 5, E", .none⟩,
   ⟨"BIT 5, H", .none⟩, ⟨"BIT 5, L", .none⟩, ⟨"BIT 5, (HL)", .none⟩, ⟨"BIT 5, A", .none⟩]

/-- Bytes 0x70 to 0x7F: R2112 to R2127. -/
def secondaryTemplates7 : List Template :=
  [⟨"BIT 6, B", .none⟩, ⟨"BIT 6, C", .none⟩, ⟨"BIT 6, D", .none⟩, ⟨"BIT 6, E", .none⟩,
   ⟨"BIT 6, H", .none⟩, ⟨"BIT 6, L", .none⟩, ⟨"BIT 6, (HL)", .none⟩, ⟨"BIT 6, A", .none⟩,
   ⟨"BIT 7, B", .none⟩, ⟨"BIT 7, C", .none⟩, ⟨"BIT 7, D", .none⟩, ⟨"BIT 7, E", .none⟩,
   ⟨"BIT 7, H", .none⟩, ⟨"BIT 7, L", .none⟩, ⟨"BIT 7, (HL)", .none⟩, ⟨"BIT 7, A", .none⟩]

/-- Bytes 0x80 to 0x8F: R2128 to R2143. -/
def secondaryTemplates8 : List Template :=
  [⟨"RES 0, B", .none⟩, ⟨"RES 0, C", .none⟩, ⟨"RES 0, D", .none⟩, ⟨"RES 0, E", .none⟩,
   ⟨"RES 0, H", .none⟩, ⟨"RES 0, L", .none⟩, ⟨"RES 0, (HL)", .none⟩, ⟨"RES 0, A", .none⟩,
   ⟨"RES 1, B", .none⟩, ⟨"RES 1, C", .none⟩, ⟨"RES 1, D", .none⟩, ⟨"RES 1, E", .none⟩,
   ⟨"RES 1, H", .none⟩, ⟨"RES 1, L", .none⟩, ⟨"RES 1, (HL)", .none⟩, ⟨"RES 1, A", .none⟩]

/-- Bytes 0x90 to 0x9F: R2144 to R2159. -/
def secondaryTemplates9 : List Template :=
  [⟨"RES 2, B", .none⟩, ⟨"RES 2, C", .none⟩, ⟨"RES 2, D", .none⟩, ⟨"RES 2, E", .none⟩,
   ⟨"RES 2, H", .none⟩, ⟨"RES 2, L", .none⟩, ⟨"RES 2, (HL)", .none⟩, ⟨"RES 2, A", .none⟩,
   ⟨"RES 3, B", .none⟩, ⟨"RES 3, C", .none⟩, ⟨"RES 3, D", .none⟩, ⟨"RES 3, E", .none⟩,
   ⟨"RES 3, H", .none⟩, ⟨"RES 3, L", .none⟩, ⟨"RES 3, (HL)", .none⟩, ⟨"RES 3, A", .none⟩]

/-- Bytes 0xA0 to 0xAF: R2160 to R2175. -/
def secondaryTemplatesA : List Template :=
  [⟨"RES 4, B", .none⟩, ⟨"RES 4, C", .none⟩, ⟨"RES 4, D", .none⟩, ⟨"RES 4, E", .none⟩,
   ⟨"RES 4, H", .none⟩, ⟨"RES 4, L", .none⟩, ⟨"RES 4, (HL)", .none⟩, ⟨"RES 4, A", .none⟩,
   ⟨"RES 5, B", .none⟩, ⟨"RES 5, C", .none⟩, ⟨"RES 5, D", .none⟩, ⟨"RES 5, E", .none⟩,
   ⟨"RES 5, H", .none⟩, ⟨"RES 5, L", .none⟩, ⟨"RES 5, (HL)", .none⟩, ⟨"RES 5, A", .none⟩]

/-- Bytes 0xB0 to 0xBF: R2176 to R2191. -/
def secondaryTemplatesB : List Template :=
  [⟨"RES 6, B", .none⟩, ⟨"RES 6, C", .none⟩, ⟨"RES 6, D", .none⟩, ⟨"RES 6, E", .none⟩,
   ⟨"RES 6, H", .none⟩, ⟨"RES 6, L", .none⟩, ⟨"RES 6, (HL)", .none⟩, ⟨"RES 6, A", .none⟩,
   ⟨"RES 7, B", .none⟩, ⟨"RES 7, C", .none⟩, ⟨"RES 7, D", .none⟩, ⟨"RES 7, E", .none⟩,
   ⟨"RES 7, H", .none⟩, ⟨"RES 7, L", .none⟩, ⟨"RES 7, (HL)", .none⟩, ⟨"RES 7, A", .none⟩]

/-- Bytes 0xC0 to 0xCF: R2192 to R2207. -/
def secondaryTemplatesC : List Template :=
  [⟨"SET 0, B", .none⟩, ⟨"SET 0, C", .none⟩, ⟨"SET 0, D", .none⟩, ⟨"SET 0, E", .none⟩,
   ⟨"SET 0, H", .none⟩, ⟨"SET 0, L", .none⟩, ⟨"SET 0, (HL)", .none⟩, ⟨"SET 0, A", .none⟩,
   ⟨"SET 1, B", .none⟩, ⟨"SET 1, C", .none⟩, ⟨"SET 1, D", .none⟩, ⟨"SET 1, E", .none⟩,
   ⟨"SET 1, H", .none⟩, ⟨"SET 1, L", .none⟩, ⟨"SET 1, (HL)", .none⟩, ⟨"SET 1, A", .none⟩]

/-- Bytes 0xD0 to 0xDF: R2208 to R2223. -/
def secondaryTemplatesD : List Template :=
  [⟨"SET 2, B", .none⟩, ⟨"SET 2, C", .none⟩, ⟨"SET 2, D", .none⟩, ⟨"SET 2, E", .none⟩,
   ⟨"SET 2, H", .none⟩, ⟨"SET 2, L", .none⟩, ⟨"SET 2, (HL)", .none⟩, ⟨"SET 2, A", .none⟩,
   ⟨"SET 3, B", .none⟩, ⟨"SET 3, C", .none⟩, ⟨"SET 3, D", .none⟩, ⟨"SET 3, E", .none⟩,
   ⟨"SET 3, H", .none⟩, ⟨"SET 3, L", .none⟩, ⟨"SET 3, (HL)", .none⟩, ⟨"SET 3, A", .none⟩]

/-- Bytes 0xE0 to 0xEF: R2224 to R2239. -/
def secondaryTemplatesE : List Template :=
  [⟨"SET 4, B", .none⟩, ⟨"SET 4, C", .none⟩, ⟨"SET 4, D", .none⟩, ⟨"SET 4, E", .none⟩,
   ⟨"SET 4, H", .none⟩, ⟨"SET 4, L", .none⟩, ⟨"SET 4, (HL)", .none⟩, ⟨"SET 4, A", .none⟩,
   ⟨"SET 5, B", .none⟩, ⟨"SET 5, C", .none⟩, ⟨"SET 5, D", .none⟩, ⟨"SET 5, E", .none⟩,
   ⟨"SET 5, H", .none⟩, ⟨"SET 5, L", .none⟩, ⟨"SET 5, (HL)", .none⟩, ⟨"SET 5, A", .none⟩]

/-- Bytes 0xF0 to 0xFF: R2240 to R2255. -/
def secondaryTemplatesF : List Template :=
  [⟨"SET 6, B", .none⟩, ⟨"SET 6, C", .none⟩, ⟨"SET 6, D", .none⟩, ⟨"SET 6, E", .none⟩,
   ⟨"SET 6, H", .none⟩, ⟨"SET 6, L", .none⟩, ⟨"SET 6, (HL)", .none⟩, ⟨"SET 6, A", .none⟩,
   ⟨"SET 7, B", .none⟩, ⟨"SET 7, C", .none⟩, ⟨"SET 7, D", .none⟩, ⟨"SET 7, E", .none⟩,
   ⟨"SET 7, H", .none⟩, ⟨"SET 7, L", .none⟩, ⟨"SET 7, (HL)", .none⟩, ⟨"SET 7, A", .none⟩]

/-- The rows of the table by high nibble. -/
def secondaryTemplateRows : List (List Template) :=
  [secondaryTemplates0, secondaryTemplates1, secondaryTemplates2, secondaryTemplates3, secondaryTemplates4, secondaryTemplates5, secondaryTemplates6, secondaryTemplates7,
   secondaryTemplates8, secondaryTemplates9, secondaryTemplatesA, secondaryTemplatesB, secondaryTemplatesC, secondaryTemplatesD, secondaryTemplatesE, secondaryTemplatesF]

/-- `decodeSecondary(b) = secondary[b]`: total and pure (R180). The default is never met: there are 256 entries (U13). -/
def decodeSecondary (b : Byte) : Template :=
  (secondaryTemplateRows.getD (b.toNat / 16) []).getD (b.toNat % 16) ⟨"", .none⟩

end Sys2Proof.Machine
end

