-- ==== Sys2Proof/Machine/Trace.lean ====
section
/-! DEFINITION. The trace emitter (47_trace_emitter.md) in the order R302 writes it: gather the enabled fields,
read the instruction at PC, then compose and emit the line. The last part is the shared operation that every
instruction's meaning calls. -/

namespace Sys2Proof.Machine

/-! ## The diagnostic fields -/

/-- `fields <- fields ++ [f]` (R302). -/
def State.addField (s : State) (f : String) : State := { s with fields := s.fields ++ [f] }

/-- An I/O register snapshot: one read, then its field (R308, R309). -/
def State.addSnapshot (s : State) (a : Word) : State :=
  let v := s.memRead a
  v.2.addField (hex v.1.toNat)

/-- `let fields = []` (R302). -/
def State.beginFields (s : State) : State := { s with fields := [] }

/-- R305. -/
def addressField (o : TraceOptions) (s : State) : State :=
  if o.showAddress then s.addField (hex s.regs.pc.toNat) else s

/-- R306. -/
def flagsField (o : TraceOptions) (s : State) : State :=
  if o.showFlags then s.addField (flagSummary s.regs) else s

/-- R307. -/
def cyclesField (o : TraceOptions) (cycles : Cycles) (s : State) : State :=
  if o.showCycles then s.addField (decNat cycles.toNat) else s

/-- R308. -/
def joypadField (o : TraceOptions) (s : State) : State :=
  if o.showJoypadRegister then s.addSnapshot s.params.joypAddr else s

/-- R309: each address of `TIMER_ADDRS` is read once, in list order. -/
def timerFields (o : TraceOptions) (s : State) : State :=
  if o.showTimerRegisters then s.params.timerAddrs.foldl State.addSnapshot s else s

/-- The enabled fields, in the fixed left-to-right order (R302, R304). -/
def gatherFields (o : TraceOptions) (cycles : Cycles) (s : State) : State :=
  timerFields o (joypadField o (cyclesField o cycles (flagsField o (addressField o s.beginFields))))

/-! ## Reading the instruction at PC -/

/-- Reads the operand that an entry's shape names (R302 `readOperand`) and makes the instruction. -/
def readOperandOf (e : Entry) (s : State) : Instr × State :=
  match e with
  | .plain i => (i, s)
  | .imm8 mk =>
    let v := readImmediate8 s
    (mk v.1, v.2)
  | .imm16 mk =>
    let v := readImmediate16 s
    (mk v.1, v.2)
  | .addr16 mk =>
    let v := readAddress16 s
    (mk v.1, v.2)
  | .rel8 mk =>
    let v := readSignedRelative8 s
    (mk v.1, v.2)

/-- Reads the opcode at PC; after 0xCB the byte at PC+1 selects in the secondary table, never the primary
`PREFIX CB` template (R303); else the operand of the primary entry's shape follows (R302). -/
def fetchInstr (s : State) : Instr × State :=
  let op := s.memRead s.regs.pc
  if op.1 = 0xCB then
    let op2 := op.2.memRead (s.regs.pc + 1)
    (secondaryInstr op2.1, op2.2)
  else readOperandOf (primaryEntry op.1) op.2

/-! ## Composing the line -/

/-- `join(list, sep)`: `sep` between consecutive elements (R302). -/
def joinWith (sep : String) : List String → String
  | [] => ""
  | [f] => f
  | f :: g :: fs => f ++ sep ++ joinWith sep (g :: fs)

/-- What stands before the body: nothing when no field is enabled, else the fields one space apart and the
gutter (R302, R304, R310). -/
def diagnosticPart (fields : List String) (gutter : String) : String :=
  if fields = [] then "" else joinWith " " fields ++ gutter

/-- The template's text, and one space and the rendered operand where the shape is not None (R302, R311). -/
def traceBody (t : Template) (o : Operand) : String :=
  match t.shape with
  | .none => t.text
  | .imm8 => t.text ++ " " ++ renderOperand o
  | .imm16 => t.text ++ " " ++ renderOperand o
  | .addr16 => t.text ++ " " ++ renderOperand o
  | .rel8 => t.text ++ " " ++ renderOperand o

/-- The newline-terminated line of a body, with the fields of the call in progress (R302, R312). -/
def traceLine (s : State) (body : String) : String :=
  diagnosticPart s.fields s.params.gutter ++ body ++ "\n"

/-- Ends a trace call whose decode gave the template `t` and the operand `o`: one line is emitted and returned, and
nothing else changes (R312, R313). -/
def finishTrace (t : Template) (o : Operand) (s : State) : Result :=
  .next (s.emitLine (traceLine s (traceBody t o)))

/-- What the block does with a decoded primary instruction: the trace line of its template (R302, R311). -/
def tracePrimary (b : Byte) (o : Operand) (s : State) : Result := finishTrace (decodePrimary b) o s

/-- What the block does with a decoded CB instruction (R302, R303). -/
def traceSecondary (b : Byte) (s : State) : Result := finishTrace (decodeSecondary b) .none s

/-! ## The decoder's interface operations -/

/-- R160: "none (pure table lookup)". -/
def opDecodePrimary (b : Byte) (s : State) : Result := .next (s.returns (.template (decodePrimary b)))

/-- R180. -/
def opDecodeSecondary (b : Byte) (s : State) : Result := .next (s.returns (.template (decodeSecondary b)))

end Sys2Proof.Machine
end

