-- ==== Sys2Proof/Machine/Accum.lean ====
section
/-! DEFINITION. The rotates of A, `DAA`, `CPL`, `SCF` and `CCF`. The block executes nothing: the meaning of
an opcode is "its decode template (text and operand shape), never its effect" (R3), so each meaning ends the trace
call that decoded it with the line of its own template and operand.  -/

namespace Sys2Proof.Machine

/-- R1007: `RLCA`. -/
def execRlca (s : State) : Result := tracePrimary 0x07 .none s

/-- R1015: `RRCA`. -/
def execRrca (s : State) : Result := tracePrimary 0x0F .none s

/-- R1023: `RLA`. -/
def execRla (s : State) : Result := tracePrimary 0x17 .none s

/-- R1031: `RRA`. -/
def execRra (s : State) : Result := tracePrimary 0x1F .none s

/-- R1039: `DAA`. -/
def execDaa (s : State) : Result := tracePrimary 0x27 .none s

/-- R1047: `CPL`. -/
def execCpl (s : State) : Result := tracePrimary 0x2F .none s

/-- R1055: `SCF`. -/
def execScf (s : State) : Result := tracePrimary 0x37 .none s

/-- R1063: `CCF`. -/
def execCcf (s : State) : Result := tracePrimary 0x3F .none s

end Sys2Proof.Machine
end

