-- ==== Sys2Proof/Machine/Arith.lean ====
section
/-! DEFINITION. The 8-bit arithmetic and logic, `INC` and `DEC` of a byte. The block executes nothing: the meaning of
an opcode is "its decode template (text and operand shape), never its effect" (R3), so each meaning ends the trace
call that decoded it with the line of its own template and operand.  -/

namespace Sys2Proof.Machine

/-- R1004: `INC B`. -/
def execIncB (s : State) : Result := tracePrimary 0x04 .none s

/-- R1005: `DEC B`. -/
def execDecB (s : State) : Result := tracePrimary 0x05 .none s

/-- R1012: `INC C`. -/
def execIncC (s : State) : Result := tracePrimary 0x0C .none s

/-- R1013: `DEC C`. -/
def execDecC (s : State) : Result := tracePrimary 0x0D .none s

/-- R1020: `INC D`. -/
def execIncD (s : State) : Result := tracePrimary 0x14 .none s

/-- R1021: `DEC D`. -/
def execDecD (s : State) : Result := tracePrimary 0x15 .none s

/-- R1028: `INC E`. -/
def execIncE (s : State) : Result := tracePrimary 0x1C .none s

/-- R1029: `DEC E`. -/
def execDecE (s : State) : Result := tracePrimary 0x1D .none s

/-- R1036: `INC H`. -/
def execIncH (s : State) : Result := tracePrimary 0x24 .none s

/-- R1037: `DEC H`. -/
def execDecH (s : State) : Result := tracePrimary 0x25 .none s

/-- R1044: `INC L`. -/
def execIncL (s : State) : Result := tracePrimary 0x2C .none s

/-- R1045: `DEC L`. -/
def execDecL (s : State) : Result := tracePrimary 0x2D .none s

/-- R1052: `INC (HL)`. -/
def execIncAtHl (s : State) : Result := tracePrimary 0x34 .none s

/-- R1053: `DEC (HL)`. -/
def execDecAtHl (s : State) : Result := tracePrimary 0x35 .none s

/-- R1060: `INC A`. -/
def execIncA (s : State) : Result := tracePrimary 0x3C .none s

/-- R1061: `DEC A`. -/
def execDecA (s : State) : Result := tracePrimary 0x3D .none s

/-- R1128: `ADD A, B`. -/
def execAddAB (s : State) : Result := tracePrimary 0x80 .none s

/-- R1129: `ADD A, C`. -/
def execAddAC (s : State) : Result := tracePrimary 0x81 .none s

/-- R1130: `ADD A, D`. -/
def execAddAD (s : State) : Result := tracePrimary 0x82 .none s

/-- R1131: `ADD A, E`. -/
def execAddAE (s : State) : Result := tracePrimary 0x83 .none s

/-- R1132: `ADD A, H`. -/
def execAddAH (s : State) : Result := tracePrimary 0x84 .none s

/-- R1133: `ADD A, L`. -/
def execAddAL (s : State) : Result := tracePrimary 0x85 .none s

/-- R1134: `ADD A, (HL)`. -/
def execAddAAtHl (s : State) : Result := tracePrimary 0x86 .none s

/-- R1135: `ADD A, A`. -/
def execAddAA (s : State) : Result := tracePrimary 0x87 .none s

/-- R1136: `ADC A, B`. -/
def execAdcAB (s : State) : Result := tracePrimary 0x88 .none s

/-- R1137: `ADC A, C`. -/
def execAdcAC (s : State) : Result := tracePrimary 0x89 .none s

/-- R1138: `ADC A, D`. -/
def execAdcAD (s : State) : Result := tracePrimary 0x8A .none s

/-- R1139: `ADC A, E`. -/
def execAdcAE (s : State) : Result := tracePrimary 0x8B .none s

/-- R1140: `ADC A, H`. -/
def execAdcAH (s : State) : Result := tracePrimary 0x8C .none s

/-- R1141: `ADC A, L`. -/
def execAdcAL (s : State) : Result := tracePrimary 0x8D .none s

/-- R1142: `ADC A, (HL)`. -/
def execAdcAAtHl (s : State) : Result := tracePrimary 0x8E .none s

/-- R1143: `ADC A, A`. -/
def execAdcAA (s : State) : Result := tracePrimary 0x8F .none s

/-- R1144: `SUB B`. -/
def execSubB (s : State) : Result := tracePrimary 0x90 .none s

/-- R1145: `SUB C`. -/
def execSubC (s : State) : Result := tracePrimary 0x91 .none s

/-- R1146: `SUB D`. -/
def execSubD (s : State) : Result := tracePrimary 0x92 .none s

/-- R1147: `SUB E`. -/
def execSubE (s : State) : Result := tracePrimary 0x93 .none s

/-- R1148: `SUB H`. -/
def execSubH (s : State) : Result := tracePrimary 0x94 .none s

/-- R1149: `SUB L`. -/
def execSubL (s : State) : Result := tracePrimary 0x95 .none s

/-- R1150: `SUB (HL)`. -/
def execSubAtHl (s : State) : Result := tracePrimary 0x96 .none s

/-- R1151: `SUB A`. -/
def execSubA (s : State) : Result := tracePrimary 0x97 .none s

/-- R1152: `SBC A, B`. -/
def execSbcAB (s : State) : Result := tracePrimary 0x98 .none s

/-- R1153: `SBC A, C`. -/
def execSbcAC (s : State) : Result := tracePrimary 0x99 .none s

/-- R1154: `SBC A, D`. -/
def execSbcAD (s : State) : Result := tracePrimary 0x9A .none s

/-- R1155: `SBC A, E`. -/
def execSbcAE (s : State) : Result := tracePrimary 0x9B .none s

/-- R1156: `SBC A, H`. -/
def execSbcAH (s : State) : Result := tracePrimary 0x9C .none s

/-- R1157: `SBC A, L`. -/
def execSbcAL (s : State) : Result := tracePrimary 0x9D .none s

/-- R1158: `SBC A, (HL)`. -/
def execSbcAAtHl (s : State) : Result := tracePrimary 0x9E .none s

/-- R1159: `SBC A, A`. -/
def execSbcAA (s : State) : Result := tracePrimary 0x9F .none s

/-- R1160: `AND B`. -/
def execAndB (s : State) : Result := tracePrimary 0xA0 .none s

/-- R1161: `AND C`. -/
def execAndC (s : State) : Result := tracePrimary 0xA1 .none s

/-- R1162: `AND D`. -/
def execAndD (s : State) : Result := tracePrimary 0xA2 .none s

/-- R1163: `AND E`. -/
def execAndE (s : State) : Result := tracePrimary 0xA3 .none s

/-- R1164: `AND H`. -/
def execAndH (s : State) : Result := tracePrimary 0xA4 .none s

/-- R1165: `AND L`. -/
def execAndL (s : State) : Result := tracePrimary 0xA5 .none s

/-- R1166: `AND (HL)`. -/
def execAndAtHl (s : State) : Result := tracePrimary 0xA6 .none s

/-- R1167: `AND A`. -/
def execAndA (s : State) : Result := tracePrimary 0xA7 .none s

/-- R1168: `XOR B`. -/
def execXorB (s : State) : Result := tracePrimary 0xA8 .none s

/-- R1169: `XOR C`. -/
def execXorC (s : State) : Result := tracePrimary 0xA9 .none s

/-- R1170: `XOR D`. -/
def execXorD (s : State) : Result := tracePrimary 0xAA .none s

/-- R1171: `XOR E`. -/
def execXorE (s : State) : Result := tracePrimary 0xAB .none s

/-- R1172: `XOR H`. -/
def execXorH (s : State) : Result := tracePrimary 0xAC .none s

/-- R1173: `XOR L`. -/
def execXorL (s : State) : Result := tracePrimary 0xAD .none s

/-- R1174: `XOR (HL)`. -/
def execXorAtHl (s : State) : Result := tracePrimary 0xAE .none s

/-- R1175: `XOR A`. -/
def execXorA (s : State) : Result := tracePrimary 0xAF .none s

/-- R1176: `OR B`. -/
def execOrB (s : State) : Result := tracePrimary 0xB0 .none s

/-- R1177: `OR C`. -/
def execOrC (s : State) : Result := tracePrimary 0xB1 .none s

/-- R1178: `OR D`. -/
def execOrD (s : State) : Result := tracePrimary 0xB2 .none s

/-- R1179: `OR E`. -/
def execOrE (s : State) : Result := tracePrimary 0xB3 .none s

/-- R1180: `OR H`. -/
def execOrH (s : State) : Result := tracePrimary 0xB4 .none s

/-- R1181: `OR L`. -/
def execOrL (s : State) : Result := tracePrimary 0xB5 .none s

/-- R1182: `OR (HL)`. -/
def execOrAtHl (s : State) : Result := tracePrimary 0xB6 .none s

/-- R1183: `OR A`. -/
def execOrA (s : State) : Result := tracePrimary 0xB7 .none s

/-- R1184: `CP B`. -/
def execCpB (s : State) : Result := tracePrimary 0xB8 .none s

/-- R1185: `CP C`. -/
def execCpC (s : State) : Result := tracePrimary 0xB9 .none s

/-- R1186: `CP D`. -/
def execCpD (s : State) : Result := tracePrimary 0xBA .none s

/-- R1187: `CP E`. -/
def execCpE (s : State) : Result := tracePrimary 0xBB .none s

/-- R1188: `CP H`. -/
def execCpH (s : State) : Result := tracePrimary 0xBC .none s

/-- R1189: `CP L`. -/
def execCpL (s : State) : Result := tracePrimary 0xBD .none s

/-- R1190: `CP (HL)`. -/
def execCpAtHl (s : State) : Result := tracePrimary 0xBE .none s

/-- R1191: `CP A`. -/
def execCpA (s : State) : Result := tracePrimary 0xBF .none s

/-- R1198: `ADD A, d8`. -/
def execAddAD8 (v : Byte) (s : State) : Result := tracePrimary 0xC6 (.imm8 v) s

/-- R1206: `ADC A, d8`. -/
def execAdcAD8 (v : Byte) (s : State) : Result := tracePrimary 0xCE (.imm8 v) s

/-- R1214: `SUB d8`. -/
def execSubD8 (v : Byte) (s : State) : Result := tracePrimary 0xD6 (.imm8 v) s

/-- R1222: `SBC A, d8`. -/
def execSbcAD8 (v : Byte) (s : State) : Result := tracePrimary 0xDE (.imm8 v) s

/-- R1230: `AND d8`. -/
def execAndD8 (v : Byte) (s : State) : Result := tracePrimary 0xE6 (.imm8 v) s

/-- R1238: `XOR d8`. -/
def execXorD8 (v : Byte) (s : State) : Result := tracePrimary 0xEE (.imm8 v) s

/-- R1246: `OR d8`. -/
def execOrD8 (v : Byte) (s : State) : Result := tracePrimary 0xF6 (.imm8 v) s

/-- R1254: `CP d8`. -/
def execCpD8 (v : Byte) (s : State) : Result := tracePrimary 0xFE (.imm8 v) s

end Sys2Proof.Machine
end

