-- ==== Sys2Proof/Machine/ArithWord.lean ====
section
/-! DEFINITION. The 16-bit arithmetic: `ADD HL`, `ADD SP`, `INC` and `DEC` of a pair. The block executes nothing: the meaning of
an opcode is "its decode template (text and operand shape), never its effect" (R3), so each meaning ends the trace
call that decoded it with the line of its own template and operand.  -/

namespace Sys2Proof.Machine

/-- R1003: `INC BC`. -/
def execIncBc (s : State) : Result := tracePrimary 0x03 .none s

/-- R1009: `ADD HL, BC`. -/
def execAddHlBc (s : State) : Result := tracePrimary 0x09 .none s

/-- R1011: `DEC BC`. -/
def execDecBc (s : State) : Result := tracePrimary 0x0B .none s

/-- R1019: `INC DE`. -/
def execIncDe (s : State) : Result := tracePrimary 0x13 .none s

/-- R1025: `ADD HL, DE`. -/
def execAddHlDe (s : State) : Result := tracePrimary 0x19 .none s

/-- R1027: `DEC DE`. -/
def execDecDe (s : State) : Result := tracePrimary 0x1B .none s

/-- R1035: `INC HL`. -/
def execIncHl (s : State) : Result := tracePrimary 0x23 .none s

/-- R1041: `ADD HL, HL`. -/
def execAddHlHl (s : State) : Result := tracePrimary 0x29 .none s

/-- R1043: `DEC HL`. -/
def execDecHl (s : State) : Result := tracePrimary 0x2B .none s

/-- R1051: `INC SP`. -/
def execIncSp (s : State) : Result := tracePrimary 0x33 .none s

/-- R1057: `ADD HL, SP`. -/
def execAddHlSp (s : State) : Result := tracePrimary 0x39 .none s

/-- R1059: `DEC SP`. -/
def execDecSp (s : State) : Result := tracePrimary 0x3B .none s

/-- R1232: `ADD SP, r8`. -/
def execAddSpR8 (d : Int) (s : State) : Result := tracePrimary 0xE8 (.rel8 d) s

end Sys2Proof.Machine
end

