-- ==== Sys2Proof/Machine/CbBit.lean ====
section
/-! DEFINITION. The CB `BIT` entries (b[7:6] = 1). The block executes nothing: the meaning of
an opcode is "its decode template (text and operand shape), never its effect" (R3), so each meaning ends the trace
call that decoded it with the line of its own template and operand.  -/

namespace Sys2Proof.Machine

/-- R2064: `BIT 0, B`. -/
def execBit0B (s : State) : Result := traceSecondary 0x40 s

/-- R2065: `BIT 0, C`. -/
def execBit0C (s : State) : Result := traceSecondary 0x41 s

/-- R2066: `BIT 0, D`. -/
def execBit0D (s : State) : Result := traceSecondary 0x42 s

/-- R2067: `BIT 0, E`. -/
def execBit0E (s : State) : Result := traceSecondary 0x43 s

/-- R2068: `BIT 0, H`. -/
def execBit0H (s : State) : Result := traceSecondary 0x44 s

/-- R2069: `BIT 0, L`. -/
def execBit0L (s : State) : Result := traceSecondary 0x45 s

/-- R2070: `BIT 0, (HL)`. -/
def execBit0AtHl (s : State) : Result := traceSecondary 0x46 s

/-- R2071: `BIT 0, A`. -/
def execBit0A (s : State) : Result := traceSecondary 0x47 s

/-- R2072: `BIT 1, B`. -/
def execBit1B (s : State) : Result := traceSecondary 0x48 s

/-- R2073: `BIT 1, C`. -/
def execBit1C (s : State) : Result := traceSecondary 0x49 s

/-- R2074: `BIT 1, D`. -/
def execBit1D (s : State) : Result := traceSecondary 0x4A s

/-- R2075: `BIT 1, E`. -/
def execBit1E (s : State) : Result := traceSecondary 0x4B s

/-- R2076: `BIT 1, H`. -/
def execBit1H (s : State) : Result := traceSecondary 0x4C s

/-- R2077: `BIT 1, L`. -/
def execBit1L (s : State) : Result := traceSecondary 0x4D s

/-- R2078: `BIT 1, (HL)`. -/
def execBit1AtHl (s : State) : Result := traceSecondary 0x4E s

/-- R2079: `BIT 1, A`. -/
def execBit1A (s : State) : Result := traceSecondary 0x4F s

/-- R2080: `BIT 2, B`. -/
def execBit2B (s : State) : Result := traceSecondary 0x50 s

/-- R2081: `BIT 2, C`. -/
def execBit2C (s : State) : Result := traceSecondary 0x51 s

/-- R2082: `BIT 2, D`. -/
def execBit2D (s : State) : Result := traceSecondary 0x52 s

/-- R2083: `BIT 2, E`. -/
def execBit2E (s : State) : Result := traceSecondary 0x53 s

/-- R2084: `BIT 2, H`. -/
def execBit2H (s : State) : Result := traceSecondary 0x54 s

/-- R2085: `BIT 2, L`. -/
def execBit2L (s : State) : Result := traceSecondary 0x55 s

/-- R2086: `BIT 2, (HL)`. -/
def execBit2AtHl (s : State) : Result := traceSecondary 0x56 s

/-- R2087: `BIT 2, A`. -/
def execBit2A (s : State) : Result := traceSecondary 0x57 s

/-- R2088: `BIT 3, B`. -/
def execBit3B (s : State) : Result := traceSecondary 0x58 s

/-- R2089: `BIT 3, C`. -/
def execBit3C (s : State) : Result := traceSecondary 0x59 s

/-- R2090: `BIT 3, D`. -/
def execBit3D (s : State) : Result := traceSecondary 0x5A s

/-- R2091: `BIT 3, E`. -/
def execBit3E (s : State) : Result := traceSecondary 0x5B s

/-- R2092: `BIT 3, H`. -/
def execBit3H (s : State) : Result := traceSecondary 0x5C s

/-- R2093: `BIT 3, L`. -/
def execBit3L (s : State) : Result := traceSecondary 0x5D s

/-- R2094: `BIT 3, (HL)`. -/
def execBit3AtHl (s : State) : Result := traceSecondary 0x5E s

/-- R2095: `BIT 3, A`. -/
def execBit3A (s : State) : Result := traceSecondary 0x5F s

/-- R2096: `BIT 4, B`. -/
def execBit4B (s : State) : Result := traceSecondary 0x60 s

/-- R2097: `BIT 4, C`. -/
def execBit4C (s : State) : Result := traceSecondary 0x61 s

/-- R2098: `BIT 4, D`. -/
def execBit4D (s : State) : Result := traceSecondary 0x62 s

/-- R2099: `BIT 4, E`. -/
def execBit4E (s : State) : Result := traceSecondary 0x63 s

/-- R2100: `BIT 4, H`. -/
def execBit4H (s : State) : Result := traceSecondary 0x64 s

/-- R2101: `BIT 4, L`. -/
def execBit4L (s : State) : Result := traceSecondary 0x65 s

/-- R2102: `BIT 4, (HL)`. -/
def execBit4AtHl (s : State) : Result := traceSecondary 0x66 s

/-- R2103: `BIT 4, A`. -/
def execBit4A (s : State) : Result := traceSecondary 0x67 s

/-- R2104: `BIT 5, B`. -/
def execBit5B (s : State) : Result := traceSecondary 0x68 s

/-- R2105: `BIT 5, C`. -/
def execBit5C (s : State) : Result := traceSecondary 0x69 s

/-- R2106: `BIT 5, D`. -/
def execBit5D (s : State) : Result := traceSecondary 0x6A s

/-- R2107: `BIT 5, E`. -/
def execBit5E (s : State) : Result := traceSecondary 0x6B s

/-- R2108: `BIT 5, H`. -/
def execBit5H (s : State) : Result := traceSecondary 0x6C s

/-- R2109: `BIT 5, L`. -/
def execBit5L (s : State) : Result := traceSecondary 0x6D s

/-- R2110: `BIT 5, (HL)`. -/
def execBit5AtHl (s : State) : Result := traceSecondary 0x6E s

/-- R2111: `BIT 5, A`. -/
def execBit5A (s : State) : Result := traceSecondary 0x6F s

/-- R2112: `BIT 6, B`. -/
def execBit6B (s : State) : Result := traceSecondary 0x70 s

/-- R2113: `BIT 6, C`. -/
def execBit6C (s : State) : Result := traceSecondary 0x71 s

/-- R2114: `BIT 6, D`. -/
def execBit6D (s : State) : Result := traceSecondary 0x72 s

/-- R2115: `BIT 6, E`. -/
def execBit6E (s : State) : Result := traceSecondary 0x73 s

/-- R2116: `BIT 6, H`. -/
def execBit6H (s : State) : Result := traceSecondary 0x74 s

/-- R2117: `BIT 6, L`. -/
def execBit6L (s : State) : Result := traceSecondary 0x75 s

/-- R2118: `BIT 6, (HL)`. -/
def execBit6AtHl (s : State) : Result := traceSecondary 0x76 s

/-- R2119: `BIT 6, A`. -/
def execBit6A (s : State) : Result := traceSecondary 0x77 s

/-- R2120: `BIT 7, B`. -/
def execBit7B (s : State) : Result := traceSecondary 0x78 s

/-- R2121: `BIT 7, C`. -/
def execBit7C (s : State) : Result := traceSecondary 0x79 s

/-- R2122: `BIT 7, D`. -/
def execBit7D (s : State) : Result := traceSecondary 0x7A s

/-- R2123: `BIT 7, E`. -/
def execBit7E (s : State) : Result := traceSecondary 0x7B s

/-- R2124: `BIT 7, H`. -/
def execBit7H (s : State) : Result := traceSecondary 0x7C s

/-- R2125: `BIT 7, L`. -/
def execBit7L (s : State) : Result := traceSecondary 0x7D s

/-- R2126: `BIT 7, (HL)`. -/
def execBit7AtHl (s : State) : Result := traceSecondary 0x7E s

/-- R2127: `BIT 7, A`. -/
def execBit7A (s : State) : Result := traceSecondary 0x7F s

end Sys2Proof.Machine
end

