-- ==== Sys2Proof/Machine/CbRes.lean ====
section
/-! DEFINITION. The CB `RES` entries (b[7:6] = 2). The block executes nothing: the meaning of
an opcode is "its decode template (text and operand shape), never its effect" (R3), so each meaning ends the trace
call that decoded it with the line of its own template and operand.  -/

namespace Sys2Proof.Machine

/-- R2128: `RES 0, B`. -/
def execRes0B (s : State) : Result := traceSecondary 0x80 s

/-- R2129: `RES 0, C`. -/
def execRes0C (s : State) : Result := traceSecondary 0x81 s

/-- R2130: `RES 0, D`. -/
def execRes0D (s : State) : Result := traceSecondary 0x82 s

/-- R2131: `RES 0, E`. -/
def execRes0E (s : State) : Result := traceSecondary 0x83 s

/-- R2132: `RES 0, H`. -/
def execRes0H (s : State) : Result := traceSecondary 0x84 s

/-- R2133: `RES 0, L`. -/
def execRes0L (s : State) : Result := traceSecondary 0x85 s

/-- R2134: `RES 0, (HL)`. -/
def execRes0AtHl (s : State) : Result := traceSecondary 0x86 s

/-- R2135: `RES 0, A`. -/
def execRes0A (s : State) : Result := traceSecondary 0x87 s

/-- R2136: `RES 1, B`. -/
def execRes1B (s : State) : Result := traceSecondary 0x88 s

/-- R2137: `RES 1, C`. -/
def execRes1C (s : State) : Result := traceSecondary 0x89 s

/-- R2138: `RES 1, D`. -/
def execRes1D (s : State) : Result := traceSecondary 0x8A s

/-- R2139: `RES 1, E`. -/
def execRes1E (s : State) : Result := traceSecondary 0x8B s

/-- R2140: `RES 1, H`. -/
def execRes1H (s : State) : Result := traceSecondary 0x8C s

/-- R2141: `RES 1, L`. -/
def execRes1L (s : State) : Result := traceSecondary 0x8D s

/-- R2142: `RES 1, (HL)`. -/
def execRes1AtHl (s : State) : Result := traceSecondary 0x8E s

/-- R2143: `RES 1, A`. -/
def execRes1A (s : State) : Result := traceSecondary 0x8F s

/-- R2144: `RES 2, B`. -/
def execRes2B (s : State) : Result := traceSecondary 0x90 s

/-- R2145: `RES 2, C`. -/
def execRes2C (s : State) : Result := traceSecondary 0x91 s

/-- R2146: `RES 2, D`. -/
def execRes2D (s : State) : Result := traceSecondary 0x92 s

/-- R2147: `RES 2, E`. -/
def execRes2E (s : State) : Result := traceSecondary 0x93 s

/-- R2148: `RES 2, H`. -/
def execRes2H (s : State) : Result := traceSecondary 0x94 s

/-- R2149: `RES 2, L`. -/
def execRes2L (s : State) : Result := traceSecondary 0x95 s

/-- R2150: `RES 2, (HL)`. -/
def execRes2AtHl (s : State) : Result := traceSecondary 0x96 s

/-- R2151: `RES 2, A`. -/
def execRes2A (s : State) : Result := traceSecondary 0x97 s

/-- R2152: `RES 3, B`. -/
def execRes3B (s : State) : Result := traceSecondary 0x98 s

/-- R2153: `RES 3, C`. -/
def execRes3C (s : State) : Result := traceSecondary 0x99 s

/-- R2154: `RES 3, D`. -/
def execRes3D (s : State) : Result := traceSecondary 0x9A s

/-- R2155: `RES 3, E`. -/
def execRes3E (s : State) : Result := traceSecondary 0x9B s

/-- R2156: `RES 3, H`. -/
def execRes3H (s : State) : Result := traceSecondary 0x9C s

/-- R2157: `RES 3, L`. -/
def execRes3L (s : State) : Result := traceSecondary 0x9D s

/-- R2158: `RES 3, (HL)`. -/
def execRes3AtHl (s : State) : Result := traceSecondary 0x9E s

/-- R2159: `RES 3, A`. -/
def execRes3A (s : State) : Result := traceSecondary 0x9F s

/-- R2160: `RES 4, B`. -/
def execRes4B (s : State) : Result := traceSecondary 0xA0 s

/-- R2161: `RES 4, C`. -/
def execRes4C (s : State) : Result := traceSecondary 0xA1 s

/-- R2162: `RES 4, D`. -/
def execRes4D (s : State) : Result := traceSecondary 0xA2 s

/-- R2163: `RES 4, E`. -/
def execRes4E (s : State) : Result := traceSecondary 0xA3 s

/-- R2164: `RES 4, H`. -/
def execRes4H (s : State) : Result := traceSecondary 0xA4 s

/-- R2165: `RES 4, L`. -/
def execRes4L (s : State) : Result := traceSecondary 0xA5 s

/-- R2166: `RES 4, (HL)`. -/
def execRes4AtHl (s : State) : Result := traceSecondary 0xA6 s

/-- R2167: `RES 4, A`. -/
def execRes4A (s : State) : Result := traceSecondary 0xA7 s

/-- R2168: `RES 5, B`. -/
def execRes5B (s : State) : Result := traceSecondary 0xA8 s

/-- R2169: `RES 5, C`. -/
def execRes5C (s : State) : Result := traceSecondary 0xA9 s

/-- R2170: `RES 5, D`. -/
def execRes5D (s : State) : Result := traceSecondary 0xAA s

/-- R2171: `RES 5, E`. -/
def execRes5E (s : State) : Result := traceSecondary 0xAB s

/-- R2172: `RES 5, H`. -/
def execRes5H (s : State) : Result := traceSecondary 0xAC s

/-- R2173: `RES 5, L`. -/
def execRes5L (s : State) : Result := traceSecondary 0xAD s

/-- R2174: `RES 5, (HL)`. -/
def execRes5AtHl (s : State) : Result := traceSecondary 0xAE s

/-- R2175: `RES 5, A`. -/
def execRes5A (s : State) : Result := traceSecondary 0xAF s

/-- R2176: `RES 6, B`. -/
def execRes6B (s : State) : Result := traceSecondary 0xB0 s

/-- R2177: `RES 6, C`. -/
def execRes6C (s : State) : Result := traceSecondary 0xB1 s

/-- R2178: `RES 6, D`. -/
def execRes6D (s : State) : Result := traceSecondary 0xB2 s

/-- R2179: `RES 6, E`. -/
def execRes6E (s : State) : Result := traceSecondary 0xB3 s

/-- R2180: `RES 6, H`. -/
def execRes6H (s : State) : Result := traceSecondary 0xB4 s

/-- R2181: `RES 6, L`. -/
def execRes6L (s : State) : Result := traceSecondary 0xB5 s

/-- R2182: `RES 6, (HL)`. -/
def execRes6AtHl (s : State) : Result := traceSecondary 0xB6 s

/-- R2183: `RES 6, A`. -/
def execRes6A (s : State) : Result := traceSecondary 0xB7 s

/-- R2184: `RES 7, B`. -/
def execRes7B (s : State) : Result := traceSecondary 0xB8 s

/-- R2185: `RES 7, C`. -/
def execRes7C (s : State) : Result := traceSecondary 0xB9 s

/-- R2186: `RES 7, D`. -/
def execRes7D (s : State) : Result := traceSecondary 0xBA s

/-- R2187: `RES 7, E`. -/
def execRes7E (s : State) : Result := traceSecondary 0xBB s

/-- R2188: `RES 7, H`. -/
def execRes7H (s : State) : Result := traceSecondary 0xBC s

/-- R2189: `RES 7, L`. -/
def execRes7L (s : State) : Result := traceSecondary 0xBD s

/-- R2190: `RES 7, (HL)`. -/
def execRes7AtHl (s : State) : Result := traceSecondary 0xBE s

/-- R2191: `RES 7, A`. -/
def execRes7A (s : State) : Result := traceSecondary 0xBF s

end Sys2Proof.Machine
end

