-- ==== Sys2Proof/Machine/CbSet.lean ====
section
/-! DEFINITION. The CB `SET` entries (b[7:6] = 3). The block executes nothing: the meaning of
an opcode is "its decode template (text and operand shape), never its effect" (R3), so each meaning ends the trace
call that decoded it with the line of its own template and operand.  -/

namespace Sys2Proof.Machine

/-- R2192: `SET 0, B`. -/
def execSet0B (s : State) : Result := traceSecondary 0xC0 s

/-- R2193: `SET 0, C`. -/
def execSet0C (s : State) : Result := traceSecondary 0xC1 s

/-- R2194: `SET 0, D`. -/
def execSet0D (s : State) : Result := traceSecondary 0xC2 s

/-- R2195: `SET 0, E`. -/
def execSet0E (s : State) : Result := traceSecondary 0xC3 s

/-- R2196: `SET 0, H`. -/
def execSet0H (s : State) : Result := traceSecondary 0xC4 s

/-- R2197: `SET 0, L`. -/
def execSet0L (s : State) : Result := traceSecondary 0xC5 s

/-- R2198: `SET 0, (HL)`. -/
def execSet0AtHl (s : State) : Result := traceSecondary 0xC6 s

/-- R2199: `SET 0, A`. -/
def execSet0A (s : State) : Result := traceSecondary 0xC7 s

/-- R2200: `SET 1, B`. -/
def execSet1B (s : State) : Result := traceSecondary 0xC8 s

/-- R2201: `SET 1, C`. -/
def execSet1C (s : State) : Result := traceSecondary 0xC9 s

/-- R2202: `SET 1, D`. -/
def execSet1D (s : State) : Result := traceSecondary 0xCA s

/-- R2203: `SET 1, E`. -/
def execSet1E (s : State) : Result := traceSecondary 0xCB s

/-- R2204: `SET 1, H`. -/
def execSet1H (s : State) : Result := traceSecondary 0xCC s

/-- R2205: `SET 1, L`. -/
def execSet1L (s : State) : Result := traceSecondary 0xCD s

/-- R2206: `SET 1, (HL)`. -/
def execSet1AtHl (s : State) : Result := traceSecondary 0xCE s

/-- R2207: `SET 1, A`. -/
def execSet1A (s : State) : Result := traceSecondary 0xCF s

/-- R2208: `SET 2, B`. -/
def execSet2B (s : State) : Result := traceSecondary 0xD0 s

/-- R2209: `SET 2, C`. -/
def execSet2C (s : State) : Result := traceSecondary 0xD1 s

/-- R2210: `SET 2, D`. -/
def execSet2D (s : State) : Result := traceSecondary 0xD2 s

/-- R2211: `SET 2, E`. -/
def execSet2E (s : State) : Result := traceSecondary 0xD3 s

/-- R2212: `SET 2, H`. -/
def execSet2H (s : State) : Result := traceSecondary 0xD4 s

/-- R2213: `SET 2, L`. -/
def execSet2L (s : State) : Result := traceSecondary 0xD5 s

/-- R2214: `SET 2, (HL)`. -/
def execSet2AtHl (s : State) : Result := traceSecondary 0xD6 s

/-- R2215: `SET 2, A`. -/
def execSet2A (s : State) : Result := traceSecondary 0xD7 s

/-- R2216: `SET 3, B`. -/
def execSet3B (s : State) : Result := traceSecondary 0xD8 s

/-- R2217: `SET 3, C`. -/
def execSet3C (s : State) : Result := traceSecondary 0xD9 s

/-- R2218: `SET 3, D`. -/
def execSet3D (s : State) : Result := traceSecondary 0xDA s

/-- R2219: `SET 3, E`. -/
def execSet3E (s : State) : Result := traceSecondary 0xDB s

/-- R2220: `SET 3, H`. -/
def execSet3H (s : State) : Result := traceSecondary 0xDC s

/-- R2221: `SET 3, L`. -/
def execSet3L (s : State) : Result := traceSecondary 0xDD s

/-- R2222: `SET 3, (HL)`. -/
def execSet3AtHl (s : State) : Result := traceSecondary 0xDE s

/-- R2223: `SET 3, A`. -/
def execSet3A (s : State) : Result := traceSecondary 0xDF s

/-- R2224: `SET 4, B`. -/
def execSet4B (s : State) : Result := traceSecondary 0xE0 s

/-- R2225: `SET 4, C`. -/
def execSet4C (s : State) : Result := traceSecondary 0xE1 s

/-- R2226: `SET 4, D`. -/
def execSet4D (s : State) : Result := traceSecondary 0xE2 s

/-- R2227: `SET 4, E`. -/
def execSet4E (s : State) : Result := traceSecondary 0xE3 s

/-- R2228: `SET 4, H`. -/
def execSet4H (s : State) : Result := traceSecondary 0xE4 s

/-- R2229: `SET 4, L`. -/
def execSet4L (s : State) : Result := traceSecondary 0xE5 s

/-- R2230: `SET 4, (HL)`. -/
def execSet4AtHl (s : State) : Result := traceSecondary 0xE6 s

/-- R2231: `SET 4, A`. -/
def execSet4A (s : State) : Result := traceSecondary 0xE7 s

/-- R2232: `SET 5, B`. -/
def execSet5B (s : State) : Result := traceSecondary 0xE8 s

/-- R2233: `SET 5, C`. -/
def execSet5C (s : State) : Result := traceSecondary 0xE9 s

/-- R2234: `SET 5, D`. -/
def execSet5D (s : State) : Result := traceSecondary 0xEA s

/-- R2235: `SET 5, E`. -/
def execSet5E (s : State) : Result := traceSecondary 0xEB s

/-- R2236: `SET 5, H`. -/
def execSet5H (s : State) : Result := traceSecondary 0xEC s

/-- R2237: `SET 5, L`. -/
def execSet5L (s : State) : Result := traceSecondary 0xED s

/-- R2238: `SET 5, (HL)`. -/
def execSet5AtHl (s : State) : Result := traceSecondary 0xEE s

/-- R2239: `SET 5, A`. -/
def execSet5A (s : State) : Result := traceSecondary 0xEF s

/-- R2240: `SET 6, B`. -/
def execSet6B (s : State) : Result := traceSecondary 0xF0 s

/-- R2241: `SET 6, C`. -/
def execSet6C (s : State) : Result := traceSecondary 0xF1 s

/-- R2242: `SET 6, D`. -/
def execSet6D (s : State) : Result := traceSecondary 0xF2 s

/-- R2243: `SET 6, E`. -/
def execSet6E (s : State) : Result := traceSecondary 0xF3 s

/-- R2244: `SET 6, H`. -/
def execSet6H (s : State) : Result := traceSecondary 0xF4 s

/-- R2245: `SET 6, L`. -/
def execSet6L (s : State) : Result := traceSecondary 0xF5 s

/-- R2246: `SET 6, (HL)`. -/
def execSet6AtHl (s : State) : Result := traceSecondary 0xF6 s

/-- R2247: `SET 6, A`. -/
def execSet6A (s : State) : Result := traceSecondary 0xF7 s

/-- R2248: `SET 7, B`. -/
def execSet7B (s : State) : Result := traceSecondary 0xF8 s

/-- R2249: `SET 7, C`. -/
def execSet7C (s : State) : Result := traceSecondary 0xF9 s

/-- R2250: `SET 7, D`. -/
def execSet7D (s : State) : Result := traceSecondary 0xFA s

/-- R2251: `SET 7, E`. -/
def execSet7E (s : State) : Result := traceSecondary 0xFB s

/-- R2252: `SET 7, H`. -/
def execSet7H (s : State) : Result := traceSecondary 0xFC s

/-- R2253: `SET 7, L`. -/
def execSet7L (s : State) : Result := traceSecondary 0xFD s

/-- R2254: `SET 7, (HL)`. -/
def execSet7AtHl (s : State) : Result := traceSecondary 0xFE s

/-- R2255: `SET 7, A`. -/
def execSet7A (s : State) : Result := traceSecondary 0xFF s

end Sys2Proof.Machine
end

