-- ==== Sys2Proof/Machine/CbShift.lean ====
section
/-! DEFINITION. The CB rotates, shifts and `SWAP` (b[7:6] = 0). The block executes nothing: the meaning of
an opcode is "its decode template (text and operand shape), never its effect" (R3), so each meaning ends the trace
call that decoded it with the line of its own template and operand.  -/

namespace Sys2Proof.Machine

/-- R2000: `RLC B`. -/
def execRlcB (s : State) : Result := traceSecondary 0x00 s

/-- R2001: `RLC C`. -/
def execRlcC (s : State) : Result := traceSecondary 0x01 s

/-- R2002: `RLC D`. -/
def execRlcD (s : State) : Result := traceSecondary 0x02 s

/-- R2003: `RLC E`. -/
def execRlcE (s : State) : Result := traceSecondary 0x03 s

/-- R2004: `RLC H`. -/
def execRlcH (s : State) : Result := traceSecondary 0x04 s

/-- R2005: `RLC L`. -/
def execRlcL (s : State) : Result := traceSecondary 0x05 s

/-- R2006: `RLC (HL)`. -/
def execRlcAtHl (s : State) : Result := traceSecondary 0x06 s

/-- R2007: `RLC A`. -/
def execRlcA (s : State) : Result := traceSecondary 0x07 s

/-- R2008: `RRC B`. -/
def execRrcB (s : State) : Result := traceSecondary 0x08 s

/-- R2009: `RRC C`. -/
def execRrcC (s : State) : Result := traceSecondary 0x09 s

/-- R2010: `RRC D`. -/
def execRrcD (s : State) : Result := traceSecondary 0x0A s

/-- R2011: `RRC E`. -/
def execRrcE (s : State) : Result := traceSecondary 0x0B s

/-- R2012: `RRC H`. -/
def execRrcH (s : State) : Result := traceSecondary 0x0C s

/-- R2013: `RRC L`. -/
def execRrcL (s : State) : Result := traceSecondary 0x0D s

/-- R2014: `RRC (HL)`. -/
def execRrcAtHl (s : State) : Result := traceSecondary 0x0E s

/-- R2015: `RRC A`. -/
def execRrcA (s : State) : Result := traceSecondary 0x0F s

/-- R2016: `RL B`. -/
def execRlB (s : State) : Result := traceSecondary 0x10 s

/-- R2017: `RL C`. -/
def execRlC (s : State) : Result := traceSecondary 0x11 s

/-- R2018: `RL D`. -/
def execRlD (s : State) : Result := traceSecondary 0x12 s

/-- R2019: `RL E`. -/
def execRlE (s : State) : Result := traceSecondary 0x13 s

/-- R2020: `RL H`. -/
def execRlH (s : State) : Result := traceSecondary 0x14 s

/-- R2021: `RL L`. -/
def execRlL (s : State) : Result := traceSecondary 0x15 s

/-- R2022: `RL (HL)`. -/
def execRlAtHl (s : State) : Result := traceSecondary 0x16 s

/-- R2023: `RL A`. -/
def execRlA (s : State) : Result := traceSecondary 0x17 s

/-- R2024: `RR B`. -/
def execRrB (s : State) : Result := traceSecondary 0x18 s

/-- R2025: `RR C`. -/
def execRrC (s : State) : Result := traceSecondary 0x19 s

/-- R2026: `RR D`. -/
def execRrD (s : State) : Result := traceSecondary 0x1A s

/-- R2027: `RR E`. -/
def execRrE (s : State) : Result := traceSecondary 0x1B s

/-- R2028: `RR H`. -/
def execRrH (s : State) : Result := traceSecondary 0x1C s

/-- R2029: `RR L`. -/
def execRrL (s : State) : Result := traceSecondary 0x1D s

/-- R2030: `RR (HL)`. -/
def execRrAtHl (s : State) : Result := traceSecondary 0x1E s

/-- R2031: `RR A`. -/
def execRrA (s : State) : Result := traceSecondary 0x1F s

/-- R2032: `SLA B`. -/
def execSlaB (s : State) : Result := traceSecondary 0x20 s

/-- R2033: `SLA C`. -/
def execSlaC (s : State) : Result := traceSecondary 0x21 s

/-- R2034: `SLA D`. -/
def execSlaD (s : State) : Result := traceSecondary 0x22 s

/-- R2035: `SLA E`. -/
def execSlaE (s : State) : Result := traceSecondary 0x23 s

/-- R2036: `SLA H`. -/
def execSlaH (s : State) : Result := traceSecondary 0x24 s

/-- R2037: `SLA L`. -/
def execSlaL (s : State) : Result := traceSecondary 0x25 s

/-- R2038: `SLA (HL)`. -/
def execSlaAtHl (s : State) : Result := traceSecondary 0x26 s

/-- R2039: `SLA A`. -/
def execSlaA (s : State) : Result := traceSecondary 0x27 s

/-- R2040: `SRA B`. -/
def execSraB (s : State) : Result := traceSecondary 0x28 s

/-- R2041: `SRA C`. -/
def execSraC (s : State) : Result := traceSecondary 0x29 s

/-- R2042: `SRA D`. -/
def execSraD (s : State) : Result := traceSecondary 0x2A s

/-- R2043: `SRA E`. -/
def execSraE (s : State) : Result := traceSecondary 0x2B s

/-- R2044: `SRA H`. -/
def execSraH (s : State) : Result := traceSecondary 0x2C s

/-- R2045: `SRA L`. -/
def execSraL (s : State) : Result := traceSecondary 0x2D s

/-- R2046: `SRA (HL)`. -/
def execSraAtHl (s : State) : Result := traceSecondary 0x2E s

/-- R2047: `SRA A`. -/
def execSraA (s : State) : Result := traceSecondary 0x2F s

/-- R2048: `SWAP B`. -/
def execSwapB (s : State) : Result := traceSecondary 0x30 s

/-- R2049: `SWAP C`. -/
def execSwapC (s : State) : Result := traceSecondary 0x31 s

/-- R2050: `SWAP D`. -/
def execSwapD (s : State) : Result := traceSecondary 0x32 s

/-- R2051: `SWAP E`. -/
def execSwapE (s : State) : Result := traceSecondary 0x33 s

/-- R2052: `SWAP H`. -/
def execSwapH (s : State) : Result := traceSecondary 0x34 s

/-- R2053: `SWAP L`. -/
def execSwapL (s : State) : Result := traceSecondary 0x35 s

/-- R2054: `SWAP (HL)`. -/
def execSwapAtHl (s : State) : Result := traceSecondary 0x36 s

/-- R2055: `SWAP A`. -/
def execSwapA (s : State) : Result := traceSecondary 0x37 s

/-- R2056: `SRL B`. -/
def execSrlB (s : State) : Result := traceSecondary 0x38 s

/-- R2057: `SRL C`. -/
def execSrlC (s : State) : Result := traceSecondary 0x39 s

/-- R2058: `SRL D`. -/
def execSrlD (s : State) : Result := traceSecondary 0x3A s

/-- R2059: `SRL E`. -/
def execSrlE (s : State) : Result := traceSecondary 0x3B s

/-- R2060: `SRL H`. -/
def execSrlH (s : State) : Result := traceSecondary 0x3C s

/-- R2061: `SRL L`. -/
def execSrlL (s : State) : Result := traceSecondary 0x3D s

/-- R2062: `SRL (HL)`. -/
def execSrlAtHl (s : State) : Result := traceSecondary 0x3E s

/-- R2063: `SRL A`. -/
def execSrlA (s : State) : Result := traceSecondary 0x3F s

end Sys2Proof.Machine
end

