-- ==== Sys2Proof/Machine/Control.lean ====
section
/-! DEFINITION. Jumps, calls, returns and restarts. The block executes nothing: the meaning of
an opcode is "its decode template (text and operand shape), never its effect" (R3), so each meaning ends the trace
call that decoded it with the line of its own template and operand.  -/

namespace Sys2Proof.Machine

/-- R1024: `JR r8`. -/
def execJrR8 (d : Int) (s : State) : Result := tracePrimary 0x18 (.rel8 d) s

/-- R1032: `JR NZ, r8`. -/
def execJrNzR8 (d : Int) (s : State) : Result := tracePrimary 0x20 (.rel8 d) s

/-- R1040: `JR Z, r8`. -/
def execJrZR8 (d : Int) (s : State) : Result := tracePrimary 0x28 (.rel8 d) s

/-- R1048: `JR NC, r8`. -/
def execJrNcR8 (d : Int) (s : State) : Result := tracePrimary 0x30 (.rel8 d) s

/-- R1056: `JR C, r8`. -/
def execJrCR8 (d : Int) (s : State) : Result := tracePrimary 0x38 (.rel8 d) s

/-- R1192: `RET NZ`. -/
def execRetNz (s : State) : Result := tracePrimary 0xC0 .none s

/-- R1194: `JP NZ, a16`. -/
def execJpNzA16 (a : Word) (s : State) : Result := tracePrimary 0xC2 (.addr16 a) s

/-- R1195: `JP a16`. -/
def execJpA16 (a : Word) (s : State) : Result := tracePrimary 0xC3 (.addr16 a) s

/-- R1196: `CALL NZ, a16`. -/
def execCallNzA16 (a : Word) (s : State) : Result := tracePrimary 0xC4 (.addr16 a) s

/-- R1199: `RST 00H`. -/
def execRst00H (s : State) : Result := tracePrimary 0xC7 .none s

/-- R1200: `RET Z`. -/
def execRetZ (s : State) : Result := tracePrimary 0xC8 .none s

/-- R1201: `RET`. -/
def execRet (s : State) : Result := tracePrimary 0xC9 .none s

/-- R1202: `JP Z, a16`. -/
def execJpZA16 (a : Word) (s : State) : Result := tracePrimary 0xCA (.addr16 a) s

/-- R1204: `CALL Z, a16`. -/
def execCallZA16 (a : Word) (s : State) : Result := tracePrimary 0xCC (.addr16 a) s

/-- R1205: `CALL a16`. -/
def execCallA16 (a : Word) (s : State) : Result := tracePrimary 0xCD (.addr16 a) s

/-- R1207: `RST 08H`. -/
def execRst08H (s : State) : Result := tracePrimary 0xCF .none s

/-- R1208: `RET NC`. -/
def execRetNc (s : State) : Result := tracePrimary 0xD0 .none s

/-- R1210: `JP NC, a16`. -/
def execJpNcA16 (a : Word) (s : State) : Result := tracePrimary 0xD2 (.addr16 a) s

/-- R1212: `CALL NC, a16`. -/
def execCallNcA16 (a : Word) (s : State) : Result := tracePrimary 0xD4 (.addr16 a) s

/-- R1215: `RST 10H`. -/
def execRst10H (s : State) : Result := tracePrimary 0xD7 .none s

/-- R1216: `RET C`. -/
def execRetC (s : State) : Result := tracePrimary 0xD8 .none s

/-- R1217: `RETI`. -/
def execReti (s : State) : Result := tracePrimary 0xD9 .none s

/-- R1218: `JP C, a16`. -/
def execJpCA16 (a : Word) (s : State) : Result := tracePrimary 0xDA (.addr16 a) s

/-- R1220: `CALL C, a16`. -/
def execCallCA16 (a : Word) (s : State) : Result := tracePrimary 0xDC (.addr16 a) s

/-- R1223: `RST 18H`. -/
def execRst18H (s : State) : Result := tracePrimary 0xDF .none s

/-- R1231: `RST 20H`. -/
def execRst20H (s : State) : Result := tracePrimary 0xE7 .none s

/-- R1233: `JP (HL)`. -/
def execJpAtHl (s : State) : Result := tracePrimary 0xE9 .none s

/-- R1239: `RST 28H`. -/
def execRst28H (s : State) : Result := tracePrimary 0xEF .none s

/-- R1247: `RST 30H`. -/
def execRst30H (s : State) : Result := tracePrimary 0xF7 .none s

/-- R1255: `RST 38H`. -/
def execRst38H (s : State) : Result := tracePrimary 0xFF .none s

end Sys2Proof.Machine
end

