-- ==== Sys2Proof/Machine/Escape.lean ====
section
/-! DEFINITION. The eleven undefined bytes and the stand-alone escape marker. An undefined byte is
an ordinary decode result (R161, R401), and its line holds the text of the undefined template. The marker of a
lone 0xCB is what `decodePrimary` returns; no trace line shows it (R162, R303). -/

namespace Sys2Proof.Machine

/-- R1203, R162: `PREFIX CB`, "independent of whatever byte follows", returned by `decodePrimary`. -/
def execPrefixCb (s : State) : Result := opDecodePrimary 0xCB s

/-- R1211: `????`. -/
def execUndefD3 (s : State) : Result := tracePrimary 0xD3 .none s

/-- R1219: `????`. -/
def execUndefDB (s : State) : Result := tracePrimary 0xDB .none s

/-- R1221: `????`. -/
def execUndefDD (s : State) : Result := tracePrimary 0xDD .none s

/-- R1227: `????`. -/
def execUndefE3 (s : State) : Result := tracePrimary 0xE3 .none s

/-- R1228: `????`. -/
def execUndefE4 (s : State) : Result := tracePrimary 0xE4 .none s

/-- R1235: `????`. -/
def execUndefEB (s : State) : Result := tracePrimary 0xEB .none s

/-- R1236: `????`. -/
def execUndefEC (s : State) : Result := tracePrimary 0xEC .none s

/-- R1237: `????`. -/
def execUndefED (s : State) : Result := tracePrimary 0xED .none s

/-- R1244: `????`. -/
def execUndefF4 (s : State) : Result := tracePrimary 0xF4 .none s

/-- R1252: `????`. -/
def execUndefFC (s : State) : Result := tracePrimary 0xFC .none s

/-- R1253: `????`. -/
def execUndefFD (s : State) : Result := tracePrimary 0xFD .none s

end Sys2Proof.Machine
end

