-- ==== Sys2Proof/Machine/LoadByte.lean ====
section
/-! DEFINITION. The 8-bit loads: `LD` of a byte and `LDH`. The block executes nothing: the meaning of
an opcode is "its decode template (text and operand shape), never its effect" (R3), so each meaning ends the trace
call that decoded it with the line of its own template and operand.  -/

namespace Sys2Proof.Machine

/-- R1002: `LD (BC), A`. -/
def execLdAtBcA (s : State) : Result := tracePrimary 0x02 .none s

/-- R1006: `LD B, d8`. -/
def execLdBD8 (v : Byte) (s : State) : Result := tracePrimary 0x06 (.imm8 v) s

/-- R1010: `LD A, (BC)`. -/
def execLdAAtBc (s : State) : Result := tracePrimary 0x0A .none s

/-- R1014: `LD C, d8`. -/
def execLdCD8 (v : Byte) (s : State) : Result := tracePrimary 0x0E (.imm8 v) s

/-- R1018: `LD (DE), A`. -/
def execLdAtDeA (s : State) : Result := tracePrimary 0x12 .none s

/-- R1022: `LD D, d8`. -/
def execLdDD8 (v : Byte) (s : State) : Result := tracePrimary 0x16 (.imm8 v) s

/-- R1026: `LD A, (DE)`. -/
def execLdAAtDe (s : State) : Result := tracePrimary 0x1A .none s

/-- R1030: `LD E, d8`. -/
def execLdED8 (v : Byte) (s : State) : Result := tracePrimary 0x1E (.imm8 v) s

/-- R1034: `LD (HL+), A`. -/
def execLdAtHlIncA (s : State) : Result := tracePrimary 0x22 .none s

/-- R1038: `LD H, d8`. -/
def execLdHD8 (v : Byte) (s : State) : Result := tracePrimary 0x26 (.imm8 v) s

/-- R1042: `LD A, (HL+)`. -/
def execLdAAtHlInc (s : State) : Result := tracePrimary 0x2A .none s

/-- R1046: `LD L, d8`. -/
def execLdLD8 (v : Byte) (s : State) : Result := tracePrimary 0x2E (.imm8 v) s

/-- R1050: `LD (HL-), A`. -/
def execLdAtHlDecA (s : State) : Result := tracePrimary 0x32 .none s

/-- R1054: `LD (HL), d8`. -/
def execLdAtHlD8 (v : Byte) (s : State) : Result := tracePrimary 0x36 (.imm8 v) s

/-- R1058: `LD A, (HL-)`. -/
def execLdAAtHlDec (s : State) : Result := tracePrimary 0x3A .none s

/-- R1062: `LD A, d8`. -/
def execLdAD8 (v : Byte) (s : State) : Result := tracePrimary 0x3E (.imm8 v) s

/-- R1064: `LD B, B`. -/
def execLdBB (s : State) : Result := tracePrimary 0x40 .none s

/-- R1065: `LD B, C`. -/
def execLdBC (s : State) : Result := tracePrimary 0x41 .none s

/-- R1066: `LD B, D`. -/
def execLdBD (s : State) : Result := tracePrimary 0x42 .none s

/-- R1067: `LD B, E`. -/
def execLdBE (s : State) : Result := tracePrimary 0x43 .none s

/-- R1068: `LD B, H`. -/
def execLdBH (s : State) : Result := tracePrimary 0x44 .none s

/-- R1069: `LD B, L`. -/
def execLdBL (s : State) : Result := tracePrimary 0x45 .none s

/-- R1070: `LD B, (HL)`. -/
def execLdBAtHl (s : State) : Result := tracePrimary 0x46 .none s

/-- R1071: `LD B, A`. -/
def execLdBA (s : State) : Result := tracePrimary 0x47 .none s

/-- R1072: `LD C, B`. -/
def execLdCB (s : State) : Result := tracePrimary 0x48 .none s

/-- R1073: `LD C, C`. -/
def execLdCC (s : State) : Result := tracePrimary 0x49 .none s

/-- R1074: `LD C, D`. -/
def execLdCD (s : State) : Result := tracePrimary 0x4A .none s

/-- R1075: `LD C, E`. -/
def execLdCE (s : State) : Result := tracePrimary 0x4B .none s

/-- R1076: `LD C, H`. -/
def execLdCH (s : State) : Result := tracePrimary 0x4C .none s

/-- R1077: `LD C, L`. -/
def execLdCL (s : State) : Result := tracePrimary 0x4D .none s

/-- R1078: `LD C, (HL)`. -/
def execLdCAtHl (s : State) : Result := tracePrimary 0x4E .none s

/-- R1079: `LD C, A`. -/
def execLdCA (s : State) : Result := tracePrimary 0x4F .none s

/-- R1080: `LD D, B`. -/
def execLdDB (s : State) : Result := tracePrimary 0x50 .none s

/-- R1081: `LD D, C`. -/
def execLdDC (s : State) : Result := tracePrimary 0x51 .none s

/-- R1082: `LD D, D`. -/
def execLdDD (s : State) : Result := tracePrimary 0x52 .none s

/-- R1083: `LD D, E`. -/
def execLdDE (s : State) : Result := tracePrimary 0x53 .none s

/-- R1084: `LD D, H`. -/
def execLdDH (s : State) : Result := tracePrimary 0x54 .none s

/-- R1085: `LD D, L`. -/
def execLdDL (s : State) : Result := tracePrimary 0x55 .none s

/-- R1086: `LD D, (HL)`. -/
def execLdDAtHl (s : State) : Result := tracePrimary 0x56 .none s

/-- R1087: `LD D, A`. -/
def execLdDA (s : State) : Result := tracePrimary 0x57 .none s

/-- R1088: `LD E, B`. -/
def execLdEB (s : State) : Result := tracePrimary 0x58 .none s

/-- R1089: `LD E, C`. -/
def execLdEC (s : State) : Result := tracePrimary 0x59 .none s

/-- R1090: `LD E, D`. -/
def execLdED (s : State) : Result := tracePrimary 0x5A .none s

/-- R1091: `LD E, E`. -/
def execLdEE (s : State) : Result := tracePrimary 0x5B .none s

/-- R1092: `LD E, H`. -/
def execLdEH (s : State) : Result := tracePrimary 0x5C .none s

/-- R1093: `LD E, L`. -/
def execLdEL (s : State) : Result := tracePrimary 0x5D .none s

/-- R1094: `LD E, (HL)`. -/
def execLdEAtHl (s : State) : Result := tracePrimary 0x5E .none s

/-- R1095: `LD E, A`. -/
def execLdEA (s : State) : Result := tracePrimary 0x5F .none s

/-- R1096: `LD H, B`. -/
def execLdHB (s : State) : Result := tracePrimary 0x60 .none s

/-- R1097: `LD H, C`. -/
def execLdHC (s : State) : Result := tracePrimary 0x61 .none s

/-- R1098: `LD H, D`. -/
def execLdHD (s : State) : Result := tracePrimary 0x62 .none s

/-- R1099: `LD H, E`. -/
def execLdHE (s : State) : Result := tracePrimary 0x63 .none s

/-- R1100: `LD H, H`. -/
def execLdHH (s : State) : Result := tracePrimary 0x64 .none s

/-- R1101: `LD H, L`. -/
def execLdHL (s : State) : Result := tracePrimary 0x65 .none s

/-- R1102: `LD H, (HL)`. -/
def execLdHAtHl (s : State) : Result := tracePrimary 0x66 .none s

/-- R1103: `LD H, A`. -/
def execLdHA (s : State) : Result := tracePrimary 0x67 .none s

/-- R1104: `LD L, B`. -/
def execLdLB (s : State) : Result := tracePrimary 0x68 .none s

/-- R1105: `LD L, C`. -/
def execLdLC (s : State) : Result := tracePrimary 0x69 .none s

/-- R1106: `LD L, D`. -/
def execLdLD (s : State) : Result := tracePrimary 0x6A .none s

/-- R1107: `LD L, E`. -/
def execLdLE (s : State) : Result := tracePrimary 0x6B .none s

/-- R1108: `LD L, H`. -/
def execLdLH (s : State) : Result := tracePrimary 0x6C .none s

/-- R1109: `LD L, L`. -/
def execLdLL (s : State) : Result := tracePrimary 0x6D .none s

/-- R1110: `LD L, (HL)`. -/
def execLdLAtHl (s : State) : Result := tracePrimary 0x6E .none s

/-- R1111: `LD L, A`. -/
def execLdLA (s : State) : Result := tracePrimary 0x6F .none s

/-- R1112: `LD (HL), B`. -/
def execLdAtHlB (s : State) : Result := tracePrimary 0x70 .none s

/-- R1113: `LD (HL), C`. -/
def execLdAtHlC (s : State) : Result := tracePrimary 0x71 .none s

/-- R1114: `LD (HL), D`. -/
def execLdAtHlD (s : State) : Result := tracePrimary 0x72 .none s

/-- R1115: `LD (HL), E`. -/
def execLdAtHlE (s : State) : Result := tracePrimary 0x73 .none s

/-- R1116: `LD (HL), H`. -/
def execLdAtHlH (s : State) : Result := tracePrimary 0x74 .none s

/-- R1117: `LD (HL), L`. -/
def execLdAtHlL (s : State) : Result := tracePrimary 0x75 .none s

/-- R1119: `LD (HL), A`. -/
def execLdAtHlA (s : State) : Result := tracePrimary 0x77 .none s

/-- R1120: `LD A, B`. -/
def execLdAB (s : State) : Result := tracePrimary 0x78 .none s

/-- R1121: `LD A, C`. -/
def execLdAC (s : State) : Result := tracePrimary 0x79 .none s

/-- R1122: `LD A, D`. -/
def execLdAD (s : State) : Result := tracePrimary 0x7A .none s

/-- R1123: `LD A, E`. -/
def execLdAE (s : State) : Result := tracePrimary 0x7B .none s

/-- R1124: `LD A, H`. -/
def execLdAH (s : State) : Result := tracePrimary 0x7C .none s

/-- R1125: `LD A, L`. -/
def execLdAL (s : State) : Result := tracePrimary 0x7D .none s

/-- R1126: `LD A, (HL)`. -/
def execLdAAtHl (s : State) : Result := tracePrimary 0x7E .none s

/-- R1127: `LD A, A`. -/
def execLdAA (s : State) : Result := tracePrimary 0x7F .none s

/-- R1224: `LDH (a8), A`. -/
def execLdhAtA8A (v : Byte) (s : State) : Result := tracePrimary 0xE0 (.imm8 v) s

/-- R1226: `LD (C), A`. -/
def execLdAtCA (s : State) : Result := tracePrimary 0xE2 .none s

/-- R1234: `LD (a16), A`. -/
def execLdAtA16A (a : Word) (s : State) : Result := tracePrimary 0xEA (.addr16 a) s

/-- R1240: `LDH A, (a8)`. -/
def execLdhAAtA8 (v : Byte) (s : State) : Result := tracePrimary 0xF0 (.imm8 v) s

/-- R1242: `LD A, (C)`. -/
def execLdAAtC (s : State) : Result := tracePrimary 0xF2 .none s

/-- R1250: `LD A, (a16)`. -/
def execLdAAtA16 (a : Word) (s : State) : Result := tracePrimary 0xFA (.addr16 a) s

end Sys2Proof.Machine
end

