-- ==== Sys2Proof/Machine/LoadWord.lean ====
section
/-! DEFINITION. The 16-bit loads, `PUSH` and `POP`. The block executes nothing: the meaning of
an opcode is "its decode template (text and operand shape), never its effect" (R3), so each meaning ends the trace
call that decoded it with the line of its own template and operand.  -/

namespace Sys2Proof.Machine

/-- R1001: `LD BC, d16`. -/
def execLdBcD16 (v : Word) (s : State) : Result := tracePrimary 0x01 (.imm16 v) s

/-- R1008: `LD (a16), SP`. -/
def execLdAtA16Sp (a : Word) (s : State) : Result := tracePrimary 0x08 (.addr16 a) s

/-- R1017: `LD DE, d16`. -/
def execLdDeD16 (v : Word) (s : State) : Result := tracePrimary 0x11 (.imm16 v) s

/-- R1033: `LD HL, d16`. -/
def execLdHlD16 (v : Word) (s : State) : Result := tracePrimary 0x21 (.imm16 v) s

/-- R1049: `LD SP, d16`. -/
def execLdSpD16 (v : Word) (s : State) : Result := tracePrimary 0x31 (.imm16 v) s

/-- R1193: `POP BC`. -/
def execPopBc (s : State) : Result := tracePrimary 0xC1 .none s

/-- R1197: `PUSH BC`. -/
def execPushBc (s : State) : Result := tracePrimary 0xC5 .none s

/-- R1209: `POP DE`. -/
def execPopDe (s : State) : Result := tracePrimary 0xD1 .none s

/-- R1213: `PUSH DE`. -/
def execPushDe (s : State) : Result := tracePrimary 0xD5 .none s

/-- R1225: `POP HL`. -/
def execPopHl (s : State) : Result := tracePrimary 0xE1 .none s

/-- R1229: `PUSH HL`. -/
def execPushHl (s : State) : Result := tracePrimary 0xE5 .none s

/-- R1241: `POP AF`. -/
def execPopAf (s : State) : Result := tracePrimary 0xF1 .none s

/-- R1245: `PUSH AF`. -/
def execPushAf (s : State) : Result := tracePrimary 0xF5 .none s

/-- R1248: `LD HL, SP+r8`. -/
def execLdHlSpPlusR8 (d : Int) (s : State) : Result := tracePrimary 0xF8 (.rel8 d) s

/-- R1249: `LD SP, HL`. -/
def execLdSpHl (s : State) : Result := tracePrimary 0xF9 .none s

end Sys2Proof.Machine
end

