-- ==== Sys2Proof/Machine/System.lean ====
section
/-! DEFINITION. `NOP`, `STOP`, `HALT`, `DI` and `EI`. The block executes nothing: the meaning of
an opcode is "its decode template (text and operand shape), never its effect" (R3), so each meaning ends the trace
call that decoded it with the line of its own template and operand.  -/

namespace Sys2Proof.Machine

/-- R1000: `NOP`. -/
def execNop (s : State) : Result := tracePrimary 0x00 .none s

/-- R1016: `STOP 0`. -/
def execStop0 (s : State) : Result := tracePrimary 0x10 .none s

/-- R1118: `HALT`. -/
def execHalt (s : State) : Result := tracePrimary 0x76 .none s

/-- R1243: `DI`. -/
def execDi (s : State) : Result := tracePrimary 0xF3 .none s

/-- R1251: `EI`. -/
def execEi (s : State) : Result := tracePrimary 0xFB .none s

end Sys2Proof.Machine
end

