-- ==== Sys2Proof/Machine/Serve.lean ====
section
/-! DEFINITION. One transaction on the block (30_encoding.md R85), and a trace call's way to the meaning of the
instruction at PC. -/

namespace Sys2Proof.Machine

/-- `formatLine(options)` with the cycle count `cycles` (R300, R302): the fields, the instruction at the
not-yet-advanced PC, then that instruction's line. -/
def opFormatLine (o : TraceOptions) (cycles : Cycles) (s : State) : Result :=
  let f := fetchInstr (gatherFields o cycles s)
  exec f.1 f.2

/-- Serves one request: each operation is atomic and completes before the next (R4, R437). -/
def serve (r : Request) (s : State) : Result :=
  match r with
  | .get16 p => opGet16 p s
  | .set16 p v => opSet16 p v s
  | .getHigh p => opGetHigh p s
  | .setHigh p v => opSetHigh p v s
  | .getLow p => opGetLow p s
  | .setLow p v => opSetLow p v s
  | .getRunning => opGetRunning s
  | .setRunning v => opSetRunning v s
  | .setFlag f v => opSetFlag f v s
  | .getFlag f => opGetFlag f s
  | .readImmediate16 => opReadImmediate16 s
  | .readImmediate8 => opReadImmediate8 s
  | .readAddress16 => opReadAddress16 s
  | .readSignedRelative8 => opReadSignedRelative8 s
  | .renderOperand o => opRenderOperand o s
  | .decodePrimary b => opDecodePrimary b s
  | .decodeSecondary b => opDecodeSecondary b s
  | .formatLine o cycles => opFormatLine o cycles s
  | .construct => opConstruct s
  | .busStore a v => opBusStore a v s

end Sys2Proof.Machine
end

