-- ==== Sys2Proof/Machine/Step.lean ====
section
/-! DEFINITION. The step: "The block is passive. Callers step it one interface operation at a time"
(00_scope.md §3). -/

namespace Sys2Proof.Machine

/-- Serves the oldest waiting request. With no request waiting nothing happens: the block starts nothing of its own
(R4, R437). Assumption 7. -/
def step (s : State) : Host.Outcome State Fault Refusal :=
  match s.requests with
  | [] => .next s
  | r :: rest => serve r { s with requests := rest }

/-- The request whose service runs the word of the opcode table: a trace call with every option off (R316), and for
the stand-alone marker the table lookup that returns it (R162). Assumption 10. -/
def requestFor (nbits w : Nat) : Request :=
  match tableBytes nbits w with
  | [b] => .decodePrimary b
  | _ => .formatLine .off 0

/-- The instruction's bytes stored at PC and the request that runs it put first (R32, R302). -/
def State.withFetchWord (s : State) (nbits w : Nat) : State :=
  { s with
    mem := s.mem.place s.regs.pc (tableBytes nbits w)
    answers := []
    requests := requestFor nbits w :: s.requests }

end Sys2Proof.Machine
end

