-- ==== Sys2Proof/Safety.lean ====
section
/-! DEFINITION. What a safe state and a safe run are, in the terms the statements use. -/

namespace Sys2Proof.Machine

/-- The invariant of the machine: bits 3..0 of F are zero (R23), memory has its canonical form inside the 16-bit
space (R50), the parameters are legal (R312, R405), and no trace call is half done (R28). -/
abbrev State.Inv (s : State) : Prop :=
  s.regs.af &&& 0x000F = 0 ∧ s.mem.wf = true ∧ s.params.wf = true ∧ s.fields = []

/-- The next step completes: it neither faults nor refuses (R400). -/
def State.Completes (s : State) : Prop := ∃ t, step s = .next t

/-- A request that the execution engine makes to write the register file (R31), construction included (R433). -/
def Request.writesRegisters : Request → Bool
  | .set16 _ _ | .setHigh _ _ | .setLow _ _ | .setRunning _ | .setFlag _ _ | .construct => true
  | .get16 _ | .getHigh _ | .getLow _ | .getRunning | .getFlag _ => false
  | .readImmediate16 | .readImmediate8 | .readAddress16 | .readSignedRelative8 | .renderOperand _ => false
  | .decodePrimary _ | .decodeSecondary _ | .formatLine _ _ | .busStore _ _ => false

/-- A request of the block's own interface (R85), and not an event of the memory bus (R62). -/
def Request.ofBlock : Request → Bool
  | .busStore _ _ => false
  | .set16 _ _ | .setHigh _ _ | .setLow _ _ | .setRunning _ | .setFlag _ _ | .construct => true
  | .get16 _ | .getHigh _ | .getLow _ | .getRunning | .getFlag _ => true
  | .readImmediate16 | .readImmediate8 | .readAddress16 | .readSignedRelative8 | .renderOperand _ => true
  | .decodePrimary _ | .decodeSecondary _ | .formatLine _ _ => true

/-! ## Reads, as lists of addresses -/

/-- The first `n` addresses from `pc`, modulo 65536 (R57). -/
def addressesFrom (pc : Word) (n : Nat) : List Word := [pc, pc + 1, pc + 2].take n

/-- `s` after reads at the addresses `l`. -/
def afterReads (s : State) (l : List Word) : State :=
  { s with reads := s.reads ++ l, answers := s.answers.drop l.length }

/-- The addresses of the snapshot reads in order (R302, R308, R309). -/
def snapshotAddresses (s : State) (o : TraceOptions) : List Word :=
  (if o.showJoypadRegister then [s.params.joypAddr] else []) ++
  (if o.showTimerRegisters then s.params.timerAddrs else [])

end Sys2Proof.Machine
end

