-- ==== Sys2Proof/Certificates/Slice0/Obligations.lean ====
section
/-! DEFINITION. The statements about the model. Each is universal over the state: a state is given a waiting
request by `{ s with requests := r :: rest }`, and what the memory bus answers by `answers := …` (any bytes: R64)
or by the listed memory. -/

open Sys2Proof Sys2Proof.Machine

namespace Sys2Proof.Claims

/-! ## Vocabulary -/

/-- The instruction completes, and its own effect (R3, R311, R312, R313) is one emitted and returned line with the
body `body`; every other field of the state is as before, but for the fields of the call, which is over. -/
def Traces (i : Instr) (body : String) : Prop :=
  ∀ s : State, exec i s =
    .next { s with sink := s.sink ++ [traceLine s body], ret := .text (traceLine s body), fields := [] }

/-- The pair as a bit range of the register file, by name. -/
def pairOf (r : RegFile) : Pair → Word
  | .af => r.af
  | .bc => r.bc
  | .de => r.de
  | .hl => r.hl
  | .sp => r.sp
  | .pc => r.pc

/-- The register file with one pair replaced. -/
def withPair (r : RegFile) (p : Pair) (v : Word) : RegFile :=
  match p with
  | .af => { r with af := v }
  | .bc => { r with bc := v }
  | .de => { r with de := v }
  | .hl => { r with hl := v }
  | .sp => { r with sp := v }
  | .pc => { r with pc := v }

/-- The text of the instruction whose bytes start with `b0`, `b1`, `b2`, from the two tables (R302, R303, R311). -/
def bodyOf (b0 b1 b2 : Byte) : String :=
  if b0 = 0xCB then (decodeSecondary b1).text
  else
    match (decodePrimary b0).shape with
    | .none => (decodePrimary b0).text
    | .imm8 => (decodePrimary b0).text ++ " " ++ hex b1.toNat
    | .imm16 => (decodePrimary b0).text ++ " " ++ hex (b2.toNat * 256 + b1.toNat)
    | .addr16 => (decodePrimary b0).text ++ " " ++ hex (b2.toNat * 256 + b1.toNat)
    | .rel8 => (decodePrimary b0).text ++ " " ++ dec b1.toInt

/-- The flag field (R306): bits 7, 6, 5 and 4 of AF, the flags Z, N, H and C, as `1` or `0` with nothing between
(D20). -/
def flagText (af : Word) : String :=
  String.ofList ([7, 6, 5, 4].map (fun k => if af.getLsbD k then '1' else '0'))

/-- The enabled fields in their fixed order (R304 to R309), for the snapshot bytes `j` and `ts`. -/
def fieldsOf (s : State) (o : TraceOptions) (cycles : Cycles) (j : Byte) (ts : List Byte) : List String :=
  (if o.showAddress then [hex s.regs.pc.toNat] else []) ++
  (if o.showFlags then [flagText s.regs.af] else []) ++
  (if o.showCycles then [dec cycles.toNat] else []) ++
  (if o.showJoypadRegister then [hex j.toNat] else []) ++
  (if o.showTimerRegisters then ts.map (fun b => hex b.toNat) else [])

/-- The snapshot bytes in the order they are read (R302). -/
def snapshotBytes (o : TraceOptions) (j : Byte) (ts : List Byte) : List Byte :=
  (if o.showJoypadRegister then [j] else []) ++ (if o.showTimerRegisters then ts else [])

/-- The whole line of R302: the fields one space apart and the gutter when any field is on, the body, a newline. -/
def lineOf (s : State) (fields : List String) (body : String) : String :=
  (match fields with
    | [] => ""
    | f :: fs => String.intercalate " " (f :: fs) ++ s.params.gutter) ++ body ++ "\n"

/-- The number that a list of digits denotes, most significant first. -/
def valueOf (base : Nat) (ds : List Nat) : Nat := ds.foldl (fun n d => n * base + d) 0

/-- The bit of AF that a flag is (R24, R120). -/
def flagBit : Flag → Nat
  | .z => 7
  | .n => 6
  | .h => 5
  | .c => 4

/-- `REG8` (R182). -/
def reg8 : List String := ["B", "C", "D", "E", "H", "L", "(HL)", "A"]

/-- `SHIFTOPS` (R183). -/
def shiftOps : List String := ["RLC", "RRC", "RL", "RR", "SLA", "SRA", "SWAP", "SRL"]

/-- `BITOPS` (R183). -/
def bitOps : List String := ["_", "BIT", "RES", "SET"]

/-- What stands before the operand of the ALU block, by b[5:3] (R79, 95_test_vectors.md §2.4). -/
def aluOps : List String := ["ADD A, ", "ADC A, ", "SUB ", "SBC A, ", "AND ", "XOR ", "OR ", "CP "]

/-- b[2:0], b[5:3] and b[7:6]. -/
def fieldZ (b : Byte) : Nat := b.toNat % 8
def fieldY (b : Byte) : Nat := b.toNat / 8 % 8
def fieldX (b : Byte) : Nat := b.toNat / 64

/-- The eleven undefined primary bytes (R76, R161). -/
def undefinedBytes : List Byte := [0xD3, 0xDB, 0xDD, 0xE3, 0xE4, 0xEB, 0xEC, 0xED, 0xF4, 0xFC, 0xFD]

/-- Whether the word `w` stands in the text `t`. -/
def textHas (w t : String) : Bool := t.toList.tails.any (fun u => w.toList.isPrefixOf u)

/-- The shape that the placeholder of a text gives (R81, R164). -/
def placeholderShape (t : String) : Shape :=
  if textHas "d16" t then .imm16
  else if textHas "a16" t then .addr16
  else if textHas "d8" t || textHas "a8" t then .imm8
  else if textHas "r8" t then .rel8
  else .none

/-- How many primary bytes have a shape. -/
def shapeCount (sh : Shape) : Nat :=
  ((List.range 256).filter (fun n => (decodePrimary (BitVec.ofNat 8 n)).shape = sh)).length

/-! ## The instructions of each family with the text the spec's entry gives them -/

/-- The 8-bit loads without an operand byte. -/
def byteLoads : List (Instr × String) :=
  [(.ldAtBcA, "LD (BC), A"), (.ldAAtBc, "LD A, (BC)"), (.ldAtDeA, "LD (DE), A"), (.ldAAtDe, "LD A, (DE)"),
   (.ldAtHlIncA, "LD (HL+), A"), (.ldAAtHlInc, "LD A, (HL+)"), (.ldAtHlDecA, "LD (HL-), A"), (.ldAAtHlDec, "LD A, (HL-)"),
   (.ldBB, "LD B, B"), (.ldBC, "LD B, C"), (.ldBD, "LD B, D"), (.ldBE, "LD B, E"),
   (.ldBH, "LD B, H"), (.ldBL, "LD B, L"), (.ldBAtHl, "LD B, (HL)"), (.ldBA, "LD B, A"),
   (.ldCB, "LD C, B"), (.ldCC, "LD C, C"), (.ldCD, "LD C, D"), (.ldCE, "LD C, E"),
   (.ldCH, "LD C, H"), (.ldCL, "LD C, L"), (.ldCAtHl, "LD C, (HL)"), (.ldCA, "LD C, A"),
   (.ldDB, "LD D, B"), (.ldDC, "LD D, C"), (.ldDD, "LD D, D"), (.ldDE, "LD D, E"),
   (.ldDH, "LD D, H"), (.ldDL, "LD D, L"), (.ldDAtHl, "LD D, (HL)"), (.ldDA, "LD D, A"),
   (.ldEB, "LD E, B"), (.ldEC, "LD E, C"), (.ldED, "LD E, D"), (.ldEE, "LD E, E"),
   (.ldEH, "LD E, H"), (.ldEL, "LD E, L"), (.ldEAtHl, "LD E, (HL)"), (.ldEA, "LD E, A"),
   (.ldHB, "LD H, B"), (.ldHC, "LD H, C"), (.ldHD, "LD H, D"), (.ldHE, "LD H, E"),
   (.ldHH, "LD H, H"), (.ldHL, "LD H, L"), (.ldHAtHl, "LD H, (HL)"), (.ldHA, "LD H, A"),
   (.ldLB, "LD L, B"), (.ldLC, "LD L, C"), (.ldLD, "LD L, D"), (.ldLE, "LD L, E"),
   (.ldLH, "LD L, H"), (.ldLL, "LD L, L"), (.ldLAtHl, "LD L, (HL)"), (.ldLA, "LD L, A"),
   (.ldAtHlB, "LD (HL), B"), (.ldAtHlC, "LD (HL), C"), (.ldAtHlD, "LD (HL), D"), (.ldAtHlE, "LD (HL), E"),
   (.ldAtHlH, "LD (HL), H"), (.ldAtHlL, "LD (HL), L"), (.ldAtHlA, "LD (HL), A"), (.ldAB, "LD A, B"),
   (.ldAC, "LD A, C"), (.ldAD, "LD A, D"), (.ldAE, "LD A, E"), (.ldAH, "LD A, H"),
   (.ldAL, "LD A, L"), (.ldAAtHl, "LD A, (HL)"), (.ldAA, "LD A, A"), (.ldAtCA, "LD (C), A"),
   (.ldAAtC, "LD A, (C)")]

/-- The 8-bit arithmetic and logic without an operand byte. -/
def byteArithmetic : List (Instr × String) :=
  [(.incB, "INC B"), (.decB, "DEC B"), (.incC, "INC C"), (.decC, "DEC C"),
   (.incD, "INC D"), (.decD, "DEC D"), (.incE, "INC E"), (.decE, "DEC E"),
   (.incH, "INC H"), (.decH, "DEC H"), (.incL, "INC L"), (.decL, "DEC L"),
   (.incAtHl, "INC (HL)"), (.decAtHl, "DEC (HL)"), (.incA, "INC A"), (.decA, "DEC A"),
   (.addAB, "ADD A, B"), (.addAC, "ADD A, C"), (.addAD, "ADD A, D"), (.addAE, "ADD A, E"),
   (.addAH, "ADD A, H"), (.addAL, "ADD A, L"), (.addAAtHl, "ADD A, (HL)"), (.addAA, "ADD A, A"),
   (.adcAB, "ADC A, B"), (.adcAC, "ADC A, C"), (.adcAD, "ADC A, D"), (.adcAE, "ADC A, E"),
   (.adcAH, "ADC A, H"), (.adcAL, "ADC A, L"), (.adcAAtHl, "ADC A, (HL)"), (.adcAA, "ADC A, A"),
   (.subB, "SUB B"), (.subC, "SUB C"), (.subD, "SUB D"), (.subE, "SUB E"),
   (.subH, "SUB H"), (.subL, "SUB L"), (.subAtHl, "SUB (HL)"), (.subA, "SUB A"),
   (.sbcAB, "SBC A, B"), (.sbcAC, "SBC A, C"), (.sbcAD, "SBC A, D"), (.sbcAE, "SBC A, E"),
   (.sbcAH, "SBC A, H"), (.sbcAL, "SBC A, L"), (.sbcAAtHl, "SBC A, (HL)"), (.sbcAA, "SBC A, A"),
   (.andB, "AND B"), (.andC, "AND C"), (.andD, "AND D"), (.andE, "AND E"),
   (.andH, "AND H"), (.andL, "AND L"), (.andAtHl, "AND (HL)"), (.andA, "AND A"),
   (.xorB, "XOR B"), (.xorC, "XOR C"), (.xorD, "XOR D"), (.xorE, "XOR E"),
   (.xorH, "XOR H"), (.xorL, "XOR L"), (.xorAtHl, "XOR (HL)"), (.xorA, "XOR A"),
   (.orB, "OR B"), (.orC, "OR C"), (.orD, "OR D"), (.orE, "OR E"),
   (.orH, "OR H"), (.orL, "OR L"), (.orAtHl, "OR (HL)"), (.orA, "OR A"),
   (.cpB, "CP B"), (.cpC, "CP C"), (.cpD, "CP D"), (.cpE, "CP E"),
   (.cpH, "CP H"), (.cpL, "CP L"), (.cpAtHl, "CP (HL)"), (.cpA, "CP A")]

/-- The 16-bit arithmetic, loads and stack instructions without an operand byte. -/
def wordOperations : List (Instr × String) :=
  [(.incBc, "INC BC"), (.addHlBc, "ADD HL, BC"), (.decBc, "DEC BC"), (.incDe, "INC DE"),
   (.addHlDe, "ADD HL, DE"), (.decDe, "DEC DE"), (.incHl, "INC HL"), (.addHlHl, "ADD HL, HL"),
   (.decHl, "DEC HL"), (.incSp, "INC SP"), (.addHlSp, "ADD HL, SP"), (.decSp, "DEC SP"),
   (.popBc, "POP BC"), (.pushBc, "PUSH BC"), (.popDe, "POP DE"), (.pushDe, "PUSH DE"),
   (.popHl, "POP HL"), (.pushHl, "PUSH HL"), (.popAf, "POP AF"), (.pushAf, "PUSH AF"),
   (.ldSpHl, "LD SP, HL")]

/-- The accumulator rotates and adjusts, `NOP`, `STOP`, `HALT`, `DI`, `EI`. -/
def accumulatorAndControl : List (Instr × String) :=
  [(.nop, "NOP"), (.rlca, "RLCA"), (.rrca, "RRCA"), (.stop0, "STOP 0"),
   (.rla, "RLA"), (.rra, "RRA"), (.daa, "DAA"), (.cpl, "CPL"),
   (.scf, "SCF"), (.ccf, "CCF"), (.halt, "HALT"), (.di, "DI"),
   (.ei, "EI")]

/-- Jumps, returns and restarts without an operand byte. -/
def returnsAndRestarts : List (Instr × String) :=
  [(.retNz, "RET NZ"), (.rst00H, "RST 00H"), (.retZ, "RET Z"), (.ret, "RET"),
   (.rst08H, "RST 08H"), (.retNc, "RET NC"), (.rst10H, "RST 10H"), (.retC, "RET C"),
   (.reti, "RETI"), (.rst18H, "RST 18H"), (.rst20H, "RST 20H"), (.jpAtHl, "JP (HL)"),
   (.rst28H, "RST 28H"), (.rst30H, "RST 30H"), (.rst38H, "RST 38H")]

/-- The eleven undefined bytes. -/
def undefinedRows : List (Instr × String) :=
  [(.undefD3, "????"), (.undefDB, "????"), (.undefDD, "????"), (.undefE3, "????"),
   (.undefE4, "????"), (.undefEB, "????"), (.undefEC, "????"), (.undefED, "????"),
   (.undefF4, "????"), (.undefFC, "????"), (.undefFD, "????")]

/-- The rows of shape Immediate8. -/
def immediate8Rows : List ((Byte → Instr) × String) :=
  [(.ldBD8, "LD B, d8"), (.ldCD8, "LD C, d8"), (.ldDD8, "LD D, d8"), (.ldED8, "LD E, d8"),
   (.ldHD8, "LD H, d8"), (.ldLD8, "LD L, d8"), (.ldAtHlD8, "LD (HL), d8"), (.ldAD8, "LD A, d8"),
   (.addAD8, "ADD A, d8"), (.adcAD8, "ADC A, d8"), (.subD8, "SUB d8"), (.sbcAD8, "SBC A, d8"),
   (.ldhAtA8A, "LDH (a8), A"), (.andD8, "AND d8"), (.xorD8, "XOR d8"), (.ldhAAtA8, "LDH A, (a8)"),
   (.orD8, "OR d8"), (.cpD8, "CP d8")]

/-- The rows of shape Immediate16. -/
def immediate16Rows : List ((Word → Instr) × String) :=
  [(.ldBcD16, "LD BC, d16"), (.ldDeD16, "LD DE, d16"), (.ldHlD16, "LD HL, d16"), (.ldSpD16, "LD SP, d16")]

/-- The rows of shape Address16. -/
def address16Rows : List ((Word → Instr) × String) :=
  [(.ldAtA16Sp, "LD (a16), SP"), (.jpNzA16, "JP NZ, a16"), (.jpA16, "JP a16"), (.callNzA16, "CALL NZ, a16"),
   (.jpZA16, "JP Z, a16"), (.callZA16, "CALL Z, a16"), (.callA16, "CALL a16"), (.jpNcA16, "JP NC, a16"),
   (.callNcA16, "CALL NC, a16"), (.jpCA16, "JP C, a16"), (.callCA16, "CALL C, a16"), (.ldAtA16A, "LD (a16), A"),
   (.ldAAtA16, "LD A, (a16)")]

/-- The rows of shape SignedRelative8. -/
def relative8Rows : List ((Int → Instr) × String) :=
  [(.jrR8, "JR r8"), (.jrNzR8, "JR NZ, r8"), (.jrZR8, "JR Z, r8"), (.jrNcR8, "JR NC, r8"),
   (.jrCR8, "JR C, r8"), (.addSpR8, "ADD SP, r8"), (.ldHlSpPlusR8, "LD HL, SP+r8")]

/-- The CB entries of this family. -/
def shiftRows : List (Instr × String) :=
  [(.rlcB, "RLC B"), (.rlcC, "RLC C"), (.rlcD, "RLC D"), (.rlcE, "RLC E"),
   (.rlcH, "RLC H"), (.rlcL, "RLC L"), (.rlcAtHl, "RLC (HL)"), (.rlcA, "RLC A"),
   (.rrcB, "RRC B"), (.rrcC, "RRC C"), (.rrcD, "RRC D"), (.rrcE, "RRC E"),
   (.rrcH, "RRC H"), (.rrcL, "RRC L"), (.rrcAtHl, "RRC (HL)"), (.rrcA, "RRC A"),
   (.rlB, "RL B"), (.rlC, "RL C"), (.rlD, "RL D"), (.rlE, "RL E"),
   (.rlH, "RL H"), (.rlL, "RL L"), (.rlAtHl, "RL (HL)"), (.rlA, "RL A"),
   (.rrB, "RR B"), (.rrC, "RR C"), (.rrD, "RR D"), (.rrE, "RR E"),
   (.rrH, "RR H"), (.rrL, "RR L"), (.rrAtHl, "RR (HL)"), (.rrA, "RR A"),
   (.slaB, "SLA B"), (.slaC, "SLA C"), (.slaD, "SLA D"), (.slaE, "SLA E"),
   (.slaH, "SLA H"), (.slaL, "SLA L"), (.slaAtHl, "SLA (HL)"), (.slaA, "SLA A"),
   (.sraB, "SRA B"), (.sraC, "SRA C"), (.sraD, "SRA D"), (.sraE, "SRA E"),
   (.sraH, "SRA H"), (.sraL, "SRA L"), (.sraAtHl, "SRA (HL)"), (.sraA, "SRA A"),
   (.swapB, "SWAP B"), (.swapC, "SWAP C"), (.swapD, "SWAP D"), (.swapE, "SWAP E"),
   (.swapH, "SWAP H"), (.swapL, "SWAP L"), (.swapAtHl, "SWAP (HL)"), (.swapA, "SWAP A"),
   (.srlB, "SRL B"), (.srlC, "SRL C"), (.srlD, "SRL D"), (.srlE, "SRL E"),
   (.srlH, "SRL H"), (.srlL, "SRL L"), (.srlAtHl, "SRL (HL)"), (.srlA, "SRL A")]

/-- The CB entries of this family. -/
def bitRows : List (Instr × String) :=
  [(.bit0B, "BIT 0, B"), (.bit0C, "BIT 0, C"), (.bit0D, "BIT 0, D"), (.bit0E, "BIT 0, E"),
   (.bit0H, "BIT 0, H"), (.bit0L, "BIT 0, L"), (.bit0AtHl, "BIT 0, (HL)"), (.bit0A, "BIT 0, A"),
   (.bit1B, "BIT 1, B"), (.bit1C, "BIT 1, C"), (.bit1D, "BIT 1, D"), (.bit1E, "BIT 1, E"),
   (.bit1H, "BIT 1, H"), (.bit1L, "BIT 1, L"), (.bit1AtHl, "BIT 1, (HL)"), (.bit1A, "BIT 1, A"),
   (.bit2B, "BIT 2, B"), (.bit2C, "BIT 2, C"), (.bit2D, "BIT 2, D"), (.bit2E, "BIT 2, E"),
   (.bit2H, "BIT 2, H"), (.bit2L, "BIT 2, L"), (.bit2AtHl, "BIT 2, (HL)"), (.bit2A, "BIT 2, A"),
   (.bit3B, "BIT 3, B"), (.bit3C, "BIT 3, C"), (.bit3D, "BIT 3, D"), (.bit3E, "BIT 3, E"),
   (.bit3H, "BIT 3, H"), (.bit3L, "BIT 3, L"), (.bit3AtHl, "BIT 3, (HL)"), (.bit3A, "BIT 3, A"),
   (.bit4B, "BIT 4, B"), (.bit4C, "BIT 4, C"), (.bit4D, "BIT 4, D"), (.bit4E, "BIT 4, E"),
   (.bit4H, "BIT 4, H"), (.bit4L, "BIT 4, L"), (.bit4AtHl, "BIT 4, (HL)"), (.bit4A, "BIT 4, A"),
   (.bit5B, "BIT 5, B"), (.bit5C, "BIT 5, C"), (.bit5D, "BIT 5, D"), (.bit5E, "BIT 5, E"),
   (.bit5H, "BIT 5, H"), (.bit5L, "BIT 5, L"), (.bit5AtHl, "BIT 5, (HL)"), (.bit5A, "BIT 5, A"),
   (.bit6B, "BIT 6, B"), (.bit6C, "BIT 6, C"), (.bit6D, "BIT 6, D"), (.bit6E, "BIT 6, E"),
   (.bit6H, "BIT 6, H"), (.bit6L, "BIT 6, L"), (.bit6AtHl, "BIT 6, (HL)"), (.bit6A, "BIT 6, A"),
   (.bit7B, "BIT 7, B"), (.bit7C, "BIT 7, C"), (.bit7D, "BIT 7, D"), (.bit7E, "BIT 7, E"),
   (.bit7H, "BIT 7, H"), (.bit7L, "BIT 7, L"), (.bit7AtHl, "BIT 7, (HL)"), (.bit7A, "BIT 7, A")]

/-- The CB entries of this family. -/
def resRows : List (Instr × String) :=
  [(.res0B, "RES 0, B"), (.res0C, "RES 0, C"), (.res0D, "RES 0, D"), (.res0E, "RES 0, E"),
   (.res0H, "RES 0, H"), (.res0L, "RES 0, L"), (.res0AtHl, "RES 0, (HL)"), (.res0A, "RES 0, A"),
   (.res1B, "RES 1, B"), (.res1C, "RES 1, C"), (.res1D, "RES 1, D"), (.res1E, "RES 1, E"),
   (.res1H, "RES 1, H"), (.res1L, "RES 1, L"), (.res1AtHl, "RES 1, (HL)"), (.res1A, "RES 1, A"),
   (.res2B, "RES 2, B"), (.res2C, "RES 2, C"), (.res2D, "RES 2, D"), (.res2E, "RES 2, E"),
   (.res2H, "RES 2, H"), (.res2L, "RES 2, L"), (.res2AtHl, "RES 2, (HL)"), (.res2A, "RES 2, A"),
   (.res3B, "RES 3, B"), (.res3C, "RES 3, C"), (.res3D, "RES 3, D"), (.res3E, "RES 3, E"),
   (.res3H, "RES 3, H"), (.res3L, "RES 3, L"), (.res3AtHl, "RES 3, (HL)"), (.res3A, "RES 3, A"),
   (.res4B, "RES 4, B"), (.res4C, "RES 4, C"), (.res4D, "RES 4, D"), (.res4E, "RES 4, E"),
   (.res4H, "RES 4, H"), (.res4L, "RES 4, L"), (.res4AtHl, "RES 4, (HL)"), (.res4A, "RES 4, A"),
   (.res5B, "RES 5, B"), (.res5C, "RES 5, C"), (.res5D, "RES 5, D"), (.res5E, "RES 5, E"),
   (.res5H, "RES 5, H"), (.res5L, "RES 5, L"), (.res5AtHl, "RES 5, (HL)"), (.res5A, "RES 5, A"),
   (.res6B, "RES 6, B"), (.res6C, "RES 6, C"), (.res6D, "RES 6, D"), (.res6E, "RES 6, E"),
   (.res6H, "RES 6, H"), (.res6L, "RES 6, L"), (.res6AtHl, "RES 6, (HL)"), (.res6A, "RES 6, A"),
   (.res7B, "RES 7, B"), (.res7C, "RES 7, C"), (.res7D, "RES 7, D"), (.res7E, "RES 7, E"),
   (.res7H, "RES 7, H"), (.res7L, "RES 7, L"), (.res7AtHl, "RES 7, (HL)"), (.res7A, "RES 7, A")]

/-- The CB entries of this family. -/
def setRows : List (Instr × String) :=
  [(.set0B, "SET 0, B"), (.set0C, "SET 0, C"), (.set0D, "SET 0, D"), (.set0E, "SET 0, E"),
   (.set0H, "SET 0, H"), (.set0L, "SET 0, L"), (.set0AtHl, "SET 0, (HL)"), (.set0A, "SET 0, A"),
   (.set1B, "SET 1, B"), (.set1C, "SET 1, C"), (.set1D, "SET 1, D"), (.set1E, "SET 1, E"),
   (.set1H, "SET 1, H"), (.set1L, "SET 1, L"), (.set1AtHl, "SET 1, (HL)"), (.set1A, "SET 1, A"),
   (.set2B, "SET 2, B"), (.set2C, "SET 2, C"), (.set2D, "SET 2, D"), (.set2E, "SET 2, E"),
   (.set2H, "SET 2, H"), (.set2L, "SET 2, L"), (.set2AtHl, "SET 2, (HL)"), (.set2A, "SET 2, A"),
   (.set3B, "SET 3, B"), (.set3C, "SET 3, C"), (.set3D, "SET 3, D"), (.set3E, "SET 3, E"),
   (.set3H, "SET 3, H"), (.set3L, "SET 3, L"), (.set3AtHl, "SET 3, (HL)"), (.set3A, "SET 3, A"),
   (.set4B, "SET 4, B"), (.set4C, "SET 4, C"), (.set4D, "SET 4, D"), (.set4E, "SET 4, E"),
   (.set4H, "SET 4, H"), (.set4L, "SET 4, L"), (.set4AtHl, "SET 4, (HL)"), (.set4A, "SET 4, A"),
   (.set5B, "SET 5, B"), (.set5C, "SET 5, C"), (.set5D, "SET 5, D"), (.set5E, "SET 5, E"),
   (.set5H, "SET 5, H"), (.set5L, "SET 5, L"), (.set5AtHl, "SET 5, (HL)"), (.set5A, "SET 5, A"),
   (.set6B, "SET 6, B"), (.set6C, "SET 6, C"), (.set6D, "SET 6, D"), (.set6E, "SET 6, E"),
   (.set6H, "SET 6, H"), (.set6L, "SET 6, L"), (.set6AtHl, "SET 6, (HL)"), (.set6A, "SET 6, A"),
   (.set7B, "SET 7, B"), (.set7C, "SET 7, C"), (.set7D, "SET 7, D"), (.set7E, "SET 7, E"),
   (.set7H, "SET 7, H"), (.set7L, "SET 7, L"), (.set7AtHl, "SET 7, (HL)"), (.set7A, "SET 7, A")]

end Sys2Proof.Claims

open Sys2Proof.Claims

/-! ## Reset -/

/-- R34: every register of the register file after construction, for every value of the parameter `BC_RESET`; the
flags are clear and `running` is false; the machine at reset holds such a register file. The template tables are
constants (R26), so no reset changes them. -/
def Obligations.ResetRegisterValues : Prop :=
  (∀ bc : Word,
    (RegFile.reset bc).af = 0x1100 ∧ (RegFile.reset bc).bc = bc ∧ (RegFile.reset bc).de = 0xFF56 ∧
    (RegFile.reset bc).hl = 0x000D ∧ (RegFile.reset bc).sp = 0xFFFE ∧ (RegFile.reset bc).pc = 0x0100 ∧
    (RegFile.reset bc).running = false ∧ ∀ f, (RegFile.reset bc).getFlag f = false) ∧
  ∃ bc : Word, State.reset.regs = RegFile.reset bc

/-- Construction resets the whole register file and changes nothing else. That it can be asked for again is the
model's choice (assumption 7; D26). -/
def Obligations.ConstructionResetsTheRegisterFile : Prop :=
  ∀ (s : State) (rest : List Request),
    step { s with requests := .construct :: rest } =
      .next { s with requests := rest, ret := .unit,
                     regs := ⟨0x1100, s.params.bcReset, 0xFF56, 0x000D, 0xFFFE, 0x0100, false⟩ }

/-- The invariant holds at reset. -/
def Obligations.ResetMeetsTheInvariant : Prop := State.reset.Inv

/-- R432: from every state whose register file is as construction leaves it (any BC, any memory, any dictated
answers), a trace call with no snapshot toggle on reads 0x0100 first and decodes the byte answered there: its line is
that of the bytes answered at 0x0100 and, as far as the opcode asks, at 0x0101 and 0x0102, and the register file stays
as construction left it. Where the bus is dictated `b0 :: b1 :: b2 :: tail`, those are the bytes. The order of the
reads is D6 (assumption 15), the layout of the line D14 to D20 and D23 (assumptions 16 and 17). -/
def Obligations.FirstTraceReadsTheEntryPoint : Prop :=
  ∀ (s : State) (bc : Word) (a f c : Bool) (cycles : Cycles) (rest : List Request) (b0 b1 b2 : Byte),
    s.regs = RegFile.reset bc →
    (s.busAnswer 0x0100 = b0 ∧ (afterReads s [0x0100]).busAnswer 0x0101 = b1 ∧
        (afterReads s [0x0100, 0x0101]).busAnswer 0x0102 = b2 ∨
      ∃ tail, s.answers = b0 :: b1 :: b2 :: tail) →
    (addressesFrom 0x0100 (instrLength b0)).head? = some 0x0100 ∧
    step { s with requests := .formatLine ⟨a, f, c, false, false⟩ cycles :: rest } =
      .next { s with
        regs := RegFile.reset bc
        requests := rest
        answers := s.answers.drop (instrLength b0)
        reads := s.reads ++ addressesFrom 0x0100 (instrLength b0)
        sink := s.sink ++ [lineOf s (fieldsOf s ⟨a, f, c, false, false⟩ cycles 0 []) (bodyOf b0 b1 b2)]
        ret := .text (lineOf s (fieldsOf s ⟨a, f, c, false, false⟩ cycles 0 []) (bodyOf b0 b1 b2))
        fields := [] }

/-! ## A step runs the decoded instruction -/

/-- Where the bytes at PC, PC+1 and PC+2 decode to `i`, a trace call's step is `exec i` on the state in which the
fields are gathered and the instruction's bytes are read (R302, R303). -/
def Obligations.StepRunsTheDecodedInstruction : Prop :=
  ∀ (s : State) (o : TraceOptions) (cycles : Cycles) (rest : List Request) (b0 b1 b2 : Byte) (i : Instr)
    (tail : List Byte),
    s.answers = [] →
    s.mem.get? s.regs.pc.toNat = some b0 →
    s.mem.get? (s.regs.pc + 1).toNat = some b1 →
    s.mem.get? (s.regs.pc + 2).toNat = some b2 →
    decode [b0, b1, b2] = .ok (i, tail) →
    step { s with requests := .formatLine o cycles :: rest } =
      exec i (afterReads (gatherFields o cycles { s with requests := rest })
        (addressesFrom s.regs.pc (encode i).length))

/-- The same for a bus that answers as it likes (R64): whatever bytes the reads of the instruction are answered, the
instruction those bytes decode to runs. A lone escape byte is no answer of a trace call: it always reads the byte
after it (R303). -/
def Obligations.StepRunsTheInstructionTheBusAnswers : Prop :=
  ∀ (s : State) (a f c : Bool) (cycles : Cycles) (rest : List Request) (bytes tail : List Byte) (i : Instr),
    decode bytes = .ok (i, []) → bytes ≠ [0xCB] →
    step { s with requests := .formatLine ⟨a, f, c, false, false⟩ cycles :: rest, answers := bytes ++ tail } =
      exec i (afterReads
        (gatherFields ⟨a, f, c, false, false⟩ cycles { s with requests := rest, answers := bytes ++ tail })
        (addressesFrom s.regs.pc bytes.length))

/-! ## The meaning of every instruction: its own line, and nothing else

In this block the meaning of an opcode is its template (R3). The texts are the entry rules' (the public reference's,
93 G4 and G5; assumption 12). -/

/-- The 8-bit loads without an operand byte; those with one are among the rows of shape Immediate8 and Address16. -/
def Obligations.ByteLoadsTraceTheirText : Prop := byteLoads.Forall (fun p => Traces p.1 p.2)

/-- The 8-bit arithmetic and logic without an operand byte; the forms with `d8` are among the rows of shape
Immediate8. -/
def Obligations.ByteArithmeticTracesItsText : Prop := byteArithmetic.Forall (fun p => Traces p.1 p.2)

/-- The 16-bit instructions without an operand byte. -/
def Obligations.WordOperationsTraceTheirText : Prop := wordOperations.Forall (fun p => Traces p.1 p.2)

/-- The accumulator instructions, `NOP`, `STOP`, `HALT`, `DI` and `EI`: HALT and STOP stop nothing (R411). -/
def Obligations.AccumulatorAndControlTraceTheirText : Prop := accumulatorAndControl.Forall (fun p => Traces p.1 p.2)

/-- Jumps, returns and restarts without an operand byte. -/
def Obligations.ReturnsAndRestartsTraceTheirText : Prop := returnsAndRestarts.Forall (fun p => Traces p.1 p.2)

/-- The eleven undefined bytes trace the undefined template: no fault (R161, R401). -/
def Obligations.UndefinedBytesTraceTheirTemplate : Prop :=
  undefinedRows.length = 11 ∧ undefinedRows.Forall (fun p => Traces p.1 "????")

/-- Shape Immediate8, for every operand byte; `a8` is shown as it stands, 0xFF00 is not added (D10). The texts and
shapes are assumption 12, the rendering assumption 16. -/
def Obligations.Immediate8RowsTraceTextAndOperand : Prop :=
  immediate8Rows.Forall (fun p => ∀ v : Byte, Traces (p.1 v) (p.2 ++ " " ++ hex v.toNat))

/-- Shape Immediate16, for every operand. The texts are assumption 12, the rendering assumption 16. -/
def Obligations.Immediate16RowsTraceTextAndOperand : Prop :=
  immediate16Rows.Forall (fun p => ∀ v : Word, Traces (p.1 v) (p.2 ++ " " ++ hex v.toNat))

/-- Shape Address16, for every operand; the block never reads memory at the address (R143). The texts are assumption
12, the rendering assumption 16. -/
def Obligations.Address16RowsTraceTextAndOperand : Prop :=
  address16Rows.Forall (fun p => ∀ a : Word, Traces (p.1 a) (p.2 ++ " " ++ hex a.toNat))

/-- Shape SignedRelative8, for every operand; no target address is computed and PC does not move (R144). The texts and
shapes are assumption 12 (D11 for the SP offsets), the rendering assumption 16. -/
def Obligations.Relative8RowsTraceTextAndOperand : Prop :=
  relative8Rows.Forall (fun p => ∀ d : Int, Traces (p.1 d) (p.2 ++ " " ++ dec d))

/-- The CB rotates, shifts and SWAP. -/
def Obligations.ShiftRowsTraceTheirText : Prop := shiftRows.Forall (fun p => Traces p.1 p.2)

/-- The CB BIT rows. -/
def Obligations.BitRowsTraceTheirText : Prop := bitRows.Forall (fun p => Traces p.1 p.2)

/-- The CB RES rows. -/
def Obligations.ResRowsTraceTheirText : Prop := resRows.Forall (fun p => Traces p.1 p.2)

/-- The CB SET rows. -/
def Obligations.SetRowsTraceTheirText : Prop := setRows.Forall (fun p => Traces p.1 p.2)

/-- The stand-alone escape marker: its meaning returns the marker template, emits nothing and changes nothing else,
and it is what a `decodePrimary(0xCB)` call runs (R162; the text is D8). -/
def Obligations.EscapeMarkerReturnsItsTemplate : Prop :=
  ∀ (s : State) (rest : List Request),
    exec .prefixCb s = .next { s with ret := .template ⟨"PREFIX CB", .none⟩ } ∧
    step { s with requests := .decodePrimary 0xCB :: rest } = exec .prefixCb { s with requests := rest }

/-- The bytes that encode an instruction determine its line through the two tables: encoder, tables and meanings
agree for every well-formed instruction but the stand-alone marker, which no line shows (R303). -/
def Obligations.EncodedBytesDetermineTheLine : Prop :=
  ∀ i : Instr, i.wellFormed = true → i ≠ .prefixCb →
    Traces i (bodyOf ((encode i).getD 0 0) ((encode i).getD 1 0) ((encode i).getD 2 0))

/-- The frame of every instruction: registers, flags, `running`, every byte of memory, the bus, the waiting calls
and the reporting sinks are as before; the diagnostic sink is as before or has one line more. That the parameters
stay is the model's choice of holding them in a field (assumption 4), and so are the fields that record reads, lines
and reports (assumption 8). -/
def Obligations.InstructionsLeaveTheMachineUnchanged : Prop :=
  ∀ (i : Instr) (s t : State), exec i s = .next t →
    t.regs = s.regs ∧ (∀ a : Nat, t.mem.get? a = s.mem.get? a) ∧ t.mem = s.mem ∧ t.params = s.params ∧
    t.reads = s.reads ∧ t.answers = s.answers ∧ t.requests = s.requests ∧ t.reports = s.reports ∧
    (t.sink = s.sink ∨ ∃ line, t.sink = s.sink ++ [line])

/-! ## Trace calls -/

/-- The whole trace call as R302 writes it, as one function of what the bus answers: for every options, every cycle
count and every answer, the reads in their order, the line, and everything else unchanged. The order of the reads is
D6 (assumption 15), their wrap D5 (assumption 14), the layout D16 to D23 (assumption 17). -/
def Obligations.TraceCallComputesTheLine : Prop :=
  ∀ (s : State) (o : TraceOptions) (cycles : Cycles) (rest : List Request) (j : Byte) (ts : List Byte)
    (b0 b1 b2 : Byte) (tail : List Byte), ts.length = s.params.timerAddrs.length →
    step { s with requests := .formatLine o cycles :: rest,
                  answers := snapshotBytes o j ts ++ b0 :: b1 :: b2 :: tail } =
      .next { s with
        requests := rest
        answers := (b0 :: b1 :: b2 :: tail).drop (instrLength b0)
        reads := s.reads ++ snapshotAddresses s o ++ addressesFrom s.regs.pc (instrLength b0)
        sink := s.sink ++ [lineOf s (fieldsOf s o cycles j ts) (bodyOf b0 b1 b2)]
        ret := .text (lineOf s (fieldsOf s o cycles j ts) (bodyOf b0 b1 b2))
        fields := [] }

/-- R313: a trace call changes no register and no memory and does not move PC; its only effects are reads and the
one line, which it also returns (R312). -/
def Obligations.TraceCallOnlyReadsAndEmits : Prop :=
  ∀ (s : State) (o : TraceOptions) (cycles : Cycles) (rest : List Request),
    ∃ (line : String) (l : List Word),
      step { s with requests := .formatLine o cycles :: rest } =
        .next { s with requests := rest, reads := s.reads ++ l, answers := s.answers.drop l.length,
                       sink := s.sink ++ [line], ret := .text line, fields := [] }

/-- R312: the line of a trace call ends in a newline and holds no other, for every legal gutter. -/
def Obligations.TraceLineHoldsOneNewline : Prop :=
  ∀ (s : State) (o : TraceOptions) (cycles : Cycles) (rest : List Request), s.params.wf = true →
    ∃ (t : State) (line : String), step { s with requests := .formatLine o cycles :: rest } = .next t ∧
      t.sink = s.sink ++ [line] ∧ line.toList.getLast? = some '\n' ∧ line.toList.count '\n' = 1

/-- R314: the reads of a trace call are the enabled snapshots and then the instruction's bytes, at most three of
these, at PC and modulo 65536; their number depends on the options and the opcode byte alone. -/
def Obligations.TraceCallReadsAreBounded : Prop :=
  ∀ (s : State) (o : TraceOptions) (cycles : Cycles) (rest : List Request),
    ∃ (t : State) (op : Byte), step { s with requests := .formatLine o cycles :: rest } = .next t ∧
      op = (gatherFields o cycles { s with requests := rest }).busAnswer s.regs.pc ∧
      t.reads = s.reads ++ snapshotAddresses s o ++ addressesFrom s.regs.pc (instrLength op) ∧
      t.reads.length ≤ s.reads.length + 3 + 1 + s.params.timerAddrs.length

/-- R303: after 0xCB at PC the byte at PC+1 selects in the secondary table; the primary marker never shows and no
operand is read. -/
def Obligations.EscapeResolvesThroughTheSecondaryTable : Prop :=
  ∀ (s : State) (cycles : Cycles) (rest : List Request) (b : Byte) (tail : List Byte),
    step { s with requests := .formatLine .off cycles :: rest, answers := 0xCB :: b :: tail } =
      .next { s with requests := rest, answers := tail, reads := s.reads ++ [s.regs.pc, s.regs.pc + 1],
                     sink := s.sink ++ [(decodeSecondary b).text ++ "\n"],
                     ret := .text ((decodeSecondary b).text ++ "\n"), fields := [] } ∧
    (decodeSecondary b).text ≠ "PREFIX CB"

/-- R62: a byte the execution engine stores is what the next read of its address is answered, and no other byte and no
register changes. That the bus answers a store with the stored byte is the model's choice (assumption 11). -/
def Obligations.EngineStoreIsSeenByTheNextRead : Prop :=
  ∀ (s : State) (a : Word) (v : Byte) (rest : List Request),
    ∃ t, step { s with requests := .busStore a v :: rest, answers := [] } = .next t ∧
      t.busAnswer a = v ∧ (∀ b : Nat, b ≠ a.toNat → t.mem.get? b = s.mem.get? b) ∧ t.regs = s.regs ∧
      t.reads = s.reads ∧ t.sink = s.sink

/-! ## Register operations -/

/-- The three reads of a pair and the view law: the pair, its bits 15..8 and its bits 7..0; nothing is written. -/
def Obligations.ReadsOfAPairReturnItsViews : Prop :=
  ∀ (s : State) (p : Pair) (rest : List Request),
    step { s with requests := .get16 p :: rest } =
      .next { s with requests := rest, ret := .u16 (pairOf s.regs p) } ∧
    step { s with requests := .getHigh p :: rest } =
      .next { s with requests := rest, ret := .u8 ((pairOf s.regs p).extractLsb' 8 8) } ∧
    step { s with requests := .getLow p :: rest } =
      .next { s with requests := rest, ret := .u8 ((pairOf s.regs p).extractLsb' 0 8) } ∧
    (s.regs.getHigh p).toNat * 256 + (s.regs.getLow p).toNat = (pairOf s.regs p).toNat

/-- R101: a 16-bit write sets the pair at once; for AF bits 3..0 are discarded (D4, assumption 13). -/
def Obligations.Set16WritesThePair : Prop :=
  ∀ (s : State) (p : Pair) (v : Word) (rest : List Request),
    step { s with requests := .set16 p v :: rest } =
      .next { s with requests := rest, ret := .unit,
                     regs := withPair s.regs p (if p = .af then v &&& 0xFFF0 else v) }

/-- R103: a write of the high half keeps the low half, and with it every flag. -/
def Obligations.SetHighWritesOnlyTheHighHalf : Prop :=
  ∀ (s : State) (p : Pair) (v : Byte) (rest : List Request),
    step { s with requests := .setHigh p v :: rest } =
      .next { s with requests := rest, ret := .unit,
                     regs := withPair s.regs p (v ++ (pairOf s.regs p).extractLsb' 0 8) }

/-- R105: a write of the low half keeps the high half; for AF bits 3..0 are discarded (D4, assumption 13). -/
def Obligations.SetLowWritesOnlyTheLowHalf : Prop :=
  ∀ (s : State) (p : Pair) (v : Byte) (rest : List Request),
    step { s with requests := .setLow p v :: rest } =
      .next { s with requests := rest, ret := .unit,
                     regs := withPair s.regs p
                       ((pairOf s.regs p).extractLsb' 8 8 ++ (if p = .af then v &&& 0xF0 else v)) }

/-- R106, R107: `running` is stored and read back, and nothing else changes (D24). -/
def Obligations.RunningIsStoredAndReadBack : Prop :=
  ∀ (s : State) (v : Bool) (rest : List Request),
    step { s with requests := .setRunning v :: rest } =
      .next { s with requests := rest, ret := .unit, regs := { s.regs with running := v } } ∧
    step { s with requests := .getRunning :: rest } =
      .next { s with requests := rest, ret := .bool s.regs.running }

/-- R22: "A write to one pair changes no other pair", and a write of one half leaves the other. -/
def Obligations.WritesTouchOnlyTheirHalfOrPair : Prop :=
  ∀ (r : RegFile) (p q : Pair) (v : Word) (b : Byte),
    (q ≠ p → (r.set16 p v).get16 q = r.get16 q ∧ (r.setHigh p b).get16 q = r.get16 q ∧
      (r.setLow p b).get16 q = r.get16 q) ∧
    (r.setHigh p b).getLow p = r.getLow p ∧ (r.setLow p b).getHigh p = r.getHigh p

/-! ## Flags -/

/-- R121: `setFlag` writes exactly the one bit at the flag's position in AF; all other bits, pairs and fields stay. -/
def Obligations.SetFlagWritesExactlyOneBit : Prop :=
  ∀ (s : State) (f : Flag) (v : Bool) (rest : List Request),
    ∃ af : Word,
      step { s with requests := .setFlag f v :: rest } =
        .next { s with requests := rest, ret := .unit, regs := { s.regs with af := af } } ∧
      ∀ k : Nat, k < 16 →
        af.getLsbD k =
          if k = flagBit f then v else s.regs.af.getLsbD k

/-- R122: `getFlag` returns that single bit. -/
def Obligations.GetFlagReturnsItsBit : Prop :=
  ∀ (s : State) (f : Flag) (rest : List Request),
    step { s with requests := .getFlag f :: rest } =
      .next { s with requests := rest,
                     ret := .bool (s.regs.af.getLsbD (flagBit f)) }

/-- R124: the byte view of F is the four flags. The low nibble is zero in every state a run reaches (R23). -/
def Obligations.LowByteOfAfIsTheFourFlags : Prop :=
  ∀ s : State, s.Inv →
    (s.regs.getLow .af).toNat =
      128 * (s.regs.getFlag .z).toNat + 64 * (s.regs.getFlag .n).toNat + 32 * (s.regs.getFlag .h).toNat +
        16 * (s.regs.getFlag .c).toNat

/-! ## Operand readers -/

/-- R141 and R143: two reads, PC+1 then PC+2, modulo 65536; the first answer is the low byte, the answer after that
read the high one, wherever the bus takes them from; nothing else changes. The wrap is D5 (assumption 14), the order
D6 (assumption 15). -/
def Obligations.WordReadersAreLittleEndian : Prop :=
  ∀ (s : State) (rest : List Request) (r : Request), r = .readImmediate16 ∨ r = .readAddress16 →
    step { s with requests := r :: rest } =
      .next { s with requests := rest, answers := s.answers.drop 2,
                     reads := s.reads ++ [s.regs.pc + 1, s.regs.pc + 2],
                     ret := .u16 ((afterReads s [s.regs.pc + 1]).busAnswer (s.regs.pc + 2) ++
                       s.busAnswer (s.regs.pc + 1)) }

/-- R142: exactly one read, at PC+1, returned verbatim; nothing else changes. -/
def Obligations.ReadImmediate8IsOneReadAfterTheOpcode : Prop :=
  ∀ (s : State) (rest : List Request),
    step { s with requests := .readImmediate8 :: rest } =
      .next { s with requests := rest, answers := s.answers.tail, reads := s.reads ++ [s.regs.pc + 1],
                     ret := .u8 (s.busAnswer (s.regs.pc + 1)) }

/-- R144: one read, at PC+1, as a signed two's-complement value; nothing is added to PC. -/
def Obligations.ReadSignedRelative8IsTwosComplement : Prop :=
  ∀ (s : State) (rest : List Request),
    step { s with requests := .readSignedRelative8 :: rest } =
      .next { s with requests := rest, answers := s.answers.tail, reads := s.reads ++ [s.regs.pc + 1],
                     ret := .i8 (s.busAnswer (s.regs.pc + 1)).toInt }

/-! ## Rendering -/

/-- R146: `0x` and the lower-case digits of the value, with no leading zero but for 0 itself (D14). R145: that is the
text of an operand of shape Immediate8, Immediate16 or Address16; the renderer returns each operand's text and changes
nothing else. No operand has no text. That the renderer can be asked on its own is the model's choice
(assumption 7). -/
def Obligations.HexRendersTheValue : Prop :=
  (∀ n : Nat, ∃ ds : List Nat,
    hex n = "0x" ++ String.ofList (ds.map (fun d => "0123456789abcdef".toList.getD d '?')) ∧
    (∀ d ∈ ds, d < 16) ∧ valueOf 16 ds = n ∧ (n = 0 → ds = [0]) ∧ (n ≠ 0 → ds.head? ≠ some 0 ∧ ds ≠ [])) ∧
  renderOperand .none = "" ∧
  (∀ v : Byte, renderOperand (.imm8 v) = hex v.toNat) ∧
  (∀ v : Word, renderOperand (.imm16 v) = hex v.toNat) ∧
  (∀ v : Word, renderOperand (.addr16 v) = hex v.toNat) ∧
  ∀ (s : State) (o : Operand) (rest : List Request),
    step { s with requests := .renderOperand o :: rest } =
      .next { s with requests := rest, ret := .text (renderOperand o) }

/-- R147: a `-` exactly when negative, and the decimal digits with no leading zero but for 0 itself (D15). R145: that is
the text of an operand of shape SignedRelative8, which the renderer returns, changing nothing else (assumption 7). -/
def Obligations.DecRendersTheSignedValue : Prop :=
  (∀ v : Int, ∃ ds : List Nat,
    dec v = (if v < 0 then "-" else "") ++ String.ofList (ds.map (fun d => "0123456789".toList.getD d '?')) ∧
    (∀ d ∈ ds, d < 10) ∧ valueOf 10 ds = v.natAbs ∧ (v = 0 → ds = [0]) ∧ (v ≠ 0 → ds.head? ≠ some 0 ∧ ds ≠ [])) ∧
  (∀ d : Int, renderOperand (.rel8 d) = dec d) ∧
  ∀ (s : State) (d : Int) (rest : List Request),
    step { s with requests := .renderOperand (.rel8 d) :: rest } =
      .next { s with requests := rest, ret := .text (dec d) }

/-! ## The tables -/

/-- R161: exactly the eleven illegal bytes have the undefined template (its text is D7, assumption 12), and from each
of them, whatever byte follows, the decoder reads an instruction of its own. -/
def Obligations.UndefinedBytesAreExactlyTheEleven : Prop :=
  (∀ b : Byte, (decodePrimary b = ⟨"????", .none⟩ ↔ b ∈ undefinedBytes)) ∧
  undefinedRows.length = undefinedBytes.length ∧
  (∀ p ∈ undefinedBytes.zip undefinedRows, ∀ rest : List Byte, decode (p.1 :: rest) = .ok (p.2.1, rest)) ∧
  (undefinedRows.map Prod.fst).Nodup

/-- R181 to R183: the regular structure of the secondary table (an inference of the spec's). -/
def Obligations.SecondaryTableIsRegular : Prop :=
  ∀ b : Byte, decodeSecondary b =
    ⟨(if fieldX b = 0 then shiftOps.getD (fieldY b) "" ++ " "
      else bitOps.getD (fieldX b) "" ++ " " ++ dec (fieldY b) ++ ", ") ++ reg8.getD (fieldZ b) "", .none⟩

/-- The regular blocks of the primary table, 0x40 to 0x7F but 0x76, and 0x80 to 0xBF (R79, 93 G4). -/
def Obligations.PrimaryBlocksAreRegular : Prop :=
  ∀ b : Byte,
    (fieldX b = 1 → b ≠ 0x76 →
      decodePrimary b = ⟨"LD " ++ reg8.getD (fieldY b) "" ++ ", " ++ reg8.getD (fieldZ b) "", .none⟩) ∧
    (fieldX b = 2 → decodePrimary b = ⟨aluOps.getD (fieldY b) "" ++ reg8.getD (fieldZ b) "", .none⟩)

/-- R164: the shape of a primary entry follows from the placeholder in its text, and the counts by shape. -/
def Obligations.PrimaryShapesFollowThePlaceholders : Prop :=
  (∀ b : Byte, (decodePrimary b).shape = placeholderShape (decodePrimary b).text) ∧
  shapeCount .none = 214 ∧ shapeCount .imm8 = 18 ∧ shapeCount .imm16 = 4 ∧ shapeCount .addr16 = 13 ∧
  shapeCount .rel8 = 7

/-- The decoder reads the operand that the template table's shape names, for every byte of both tables. -/
def Obligations.DecoderAgreesWithTheTemplates : Prop :=
  ∀ b : Byte, (primaryEntry b).shape = (decodePrimary b).shape ∧ (decodeSecondary b).shape = .none ∧
    (encode (secondaryInstr b)) = [0xCB, b]

/-- R160, R180: a table lookup returns the entry of its byte, reads no memory and no register, and writes nothing;
every secondary entry has shape None. -/
def Obligations.TableLookupsArePure : Prop :=
  ∀ (s : State) (b : Byte) (rest : List Request),
    step { s with requests := .decodePrimary b :: rest } =
      .next { s with requests := rest, ret := .template (decodePrimary b) } ∧
    step { s with requests := .decodeSecondary b :: rest } =
      .next { s with requests := rest, ret := .template (decodeSecondary b) } ∧
    (decodePrimary b).text ≠ "" ∧ (decodeSecondary b).text ≠ "" ∧ (decodeSecondary b).shape = .none

/-! ## Encoding -/

/-- Decoding what `encode` gives for a well-formed instruction gives it back with every operand, whatever bytes
follow; the stand-alone marker is read only where no byte follows (R162). -/
def Obligations.DecodeInvertsEncode : Prop :=
  ∀ (i : Instr) (rest : List Byte), i.wellFormed = true → (i = .prefixCb → rest = []) →
    decode (encode i ++ rest) = .ok (i, rest)

/-- Whatever bytes decode, the instruction is well-formed and encodes to exactly the bytes it took: every encoding
has one meaning and no bit is dropped. -/
def Obligations.EncodeInvertsDecode : Prop :=
  ∀ (bytes rest : List Byte) (i : Instr), decode bytes = .ok (i, rest) →
    i.wellFormed = true ∧ encode i ++ rest = bytes

/-- R76: no bytes are a fault of the decoder: any three bytes hold an instruction. -/
def Obligations.AnyThreeBytesDecode : Prop :=
  ∀ (b0 b1 b2 : Byte) (rest : List Byte), ∃ (i : Instr) (tail : List Byte), decode (b0 :: b1 :: b2 :: rest) = .ok (i, tail)

/-- R73, R77: the length of an instruction is told by its first byte alone, wherever a byte follows. -/
def Obligations.FirstByteGivesTheLength : Prop :=
  ∀ (b0 b1 : Byte) (rest tail : List Byte) (i : Instr), decode (b0 :: b1 :: rest) = .ok (i, tail) →
    (b0 :: b1 :: rest).length = instrLength b0 + tail.length ∧ (encode i).length = instrLength b0

/-- Words written out from the spec's encodings, with the instructions they stand for (R1016, R1033, R1195, R1232,
R1211, R2094, R2191, R2203). -/
def Obligations.SampleWordsDecode : Prop :=
  decode [0b00010000] = .ok (.stop0, []) ∧
  decode [0b00100001, 0x00, 0b11000000] = .ok (.ldHlD16 0xC000, []) ∧
  decode [0b11000011, 0x50, 0x01] = .ok (.jpA16 0x0150, []) ∧
  decode [0b11101000, 0b11111110] = .ok (.addSpR8 (-2), []) ∧
  decode [0b11010011] = .ok (.undefD3, []) ∧
  decode [0b11001011, 0b01011110] = .ok (.bit3AtHl, []) ∧
  decode [0b11001011, 0b10111111] = .ok (.res7A, []) ∧
  decode [0b11001011, 0b11001011] = .ok (.set1E, [])

/-! ## The machine as a whole -/

/-- The invariant is kept by every step, from every state that meets it: the low nibble of F stays zero (R23), memory
keeps its form, the parameters stay legal, and no call is left half done (R28). -/
def Obligations.StepKeepsTheInvariant : Prop :=
  ∀ s t : State, s.Inv → step s = .next t → t.Inv

/-- R400: no operation raises an exception: from every state the step completes. -/
def Obligations.EveryStepCompletes : Prop := ∀ s : State, s.Completes

/-- R31, R32, R433: only the engine's write operations and construction change the register file; decode, operand and
trace operations never do, and never move PC. -/
def Obligations.OnlyWriteRequestsChangeRegisters : Prop :=
  ∀ (s t : State) (r : Request) (rest : List Request), r.writesRegisters = false →
    step { s with requests := r :: rest } = .next t → t.regs = s.regs

/-- R51: no operation of the block writes memory. -/
def Obligations.NoBlockOperationWritesMemory : Prop :=
  ∀ (s t : State) (r : Request) (rest : List Request), r.ofBlock = true →
    step { s with requests := r :: rest } = .next t →
    t.mem = s.mem ∧ ∀ a : Nat, t.mem.get? a = s.mem.get? a

/-- R405: no step calls a reporting sink (D31, assumption 21). That no step changes a parameter is the model's choice of
holding them in a field (assumption 4), and that reads and lines are only ever added is the model's choice of recording
them (assumption 8). -/
def Obligations.NoStepReportsOrForgets : Prop :=
  ∀ s t : State, step s = .next t →
    t.reports = s.reports ∧ t.params = s.params ∧ s.reads <+: t.reads ∧ s.sink <+: t.sink

/-- R107, R411: `running` has no effect on any operation but its own read: the same step from a state that differs in
it alone returns, reads and emits the same and leaves the same pairs and memory (D24). -/
def Obligations.RunningHasNoEffect : Prop :=
  ∀ (s t : State) (r : Request) (rest : List Request) (b : Bool), r ≠ .getRunning →
    step { s with requests := r :: rest } = .next t →
    ∃ u, step { s with requests := r :: rest, regs := { s.regs with running := b } } = .next u ∧
      u = { t with regs := { t.regs with running := u.regs.running } }
end

