-- ==== Sys2Proof/Laws/Bytes.lean ====
section
/-! SUPPORT. The byte halves of a word, and the two's-complement reading of a byte. -/

namespace Sys2Proof

@[simp] theorem highByte_joinBytes (h l : Byte) : highByte (joinBytes h l) = h := by
  apply BitVec.eq_of_toNat_eq
  simp [highByte, joinBytes]
  have := h.isLt
  have := l.isLt
  omega

@[simp] theorem lowByte_joinBytes (h l : Byte) : lowByte (joinBytes h l) = l := by
  apply BitVec.eq_of_toNat_eq
  simp [lowByte, joinBytes]
  have := l.isLt
  omega

@[simp] theorem joinBytes_high_low (v : Word) : joinBytes (highByte v) (lowByte v) = v := by
  apply BitVec.eq_of_toNat_eq
  simp [highByte, lowByte, joinBytes]
  have := v.isLt
  omega

theorem joinBytes_toNat (h l : Byte) : (joinBytes h l).toNat = h.toNat * 256 + l.toNat := by
  have := h.isLt
  have := l.isLt
  simp [joinBytes]
  omega

theorem highByte_toNat (v : Word) : (highByte v).toNat = v.toNat / 256 := by
  have := v.isLt
  simp [highByte]
  omega

theorem lowByte_toNat (v : Word) : (lowByte v).toNat = v.toNat % 256 := by
  simp [lowByte]

theorem inI8_iff (d : Int) : inI8 d = true ↔ -128 ≤ d ∧ d < 128 := by
  simp [inI8]

theorem signExtend8_inI8 (v : Byte) : inI8 (signExtend8 v) = true := by
  have := v.isLt
  rw [inI8_iff, signExtend8]
  split <;> omega

theorem signExtend8_i8Byte (d : Int) (h : inI8 d = true) : signExtend8 (i8Byte d) = d := by
  rw [inI8_iff] at h
  simp only [signExtend8, i8Byte, BitVec.toNat_ofInt]
  split <;> omega

@[simp] theorem i8Byte_signExtend8 (v : Byte) : i8Byte (signExtend8 v) = v := by
  have := v.isLt
  apply BitVec.eq_of_toNat_eq
  simp only [signExtend8, i8Byte, BitVec.toNat_ofInt]
  split <;> omega

end Sys2Proof
end

