-- ==== Sys2Proof/Laws/Memory.lean ====
section
/-! SUPPORT. The memory list: read after write, and its canonical form. -/

namespace Sys2Proof.Machine

@[simp] theorem Memory.get?_set_same (m : Memory) (a : Nat) (v : Byte) : (Memory.set m a v).get? a = some v := by
  induction m with
  | nil => simp [Memory.set, Memory.get?]
  | cons c m ih =>
    obtain ⟨b, w⟩ := c
    simp only [Memory.set]
    split
    · simp [Memory.get?]
    · split
      · simp [Memory.get?]
      · simp [Memory.get?, Ne.symm ‹¬a = b›, ih]

theorem Memory.get?_set_other (m : Memory) (a b : Nat) (v : Byte) (h : b ≠ a) :
    (Memory.set m a v).get? b = m.get? b := by
  induction m with
  | nil => simp [Memory.set, Memory.get?, Ne.symm h]
  | cons c m ih =>
    obtain ⟨k, w⟩ := c
    simp only [Memory.set]
    split
    · simp [Memory.get?, Ne.symm h]
    · split
      · subst k
        simp [Memory.get?, Ne.symm h]
      · simp [Memory.get?, ih]

theorem Memory.wfFrom_set (m : Memory) (lo a : Nat) (v : Byte) (h : Memory.wfFrom lo m = true) (hlo : lo ≤ a)
    (ha : a < 65536) : Memory.wfFrom lo (Memory.set m a v) = true := by
  induction m generalizing lo with
  | nil => simp [Memory.set, Memory.wfFrom, hlo, ha]
  | cons c m ih =>
    obtain ⟨b, w⟩ := c
    simp only [Memory.wfFrom, Bool.and_eq_true, decide_eq_true_eq] at h
    obtain ⟨⟨h1, h2⟩, h3⟩ := h
    simp only [Memory.set]
    split
    · simp only [Memory.wfFrom, Bool.and_eq_true, decide_eq_true_eq]
      exact ⟨⟨hlo, ha⟩, ⟨by omega, h2⟩, h3⟩
    · split
      · subst b
        simp only [Memory.wfFrom, Bool.and_eq_true, decide_eq_true_eq]
        exact ⟨⟨hlo, ha⟩, h3⟩
      · simp only [Memory.wfFrom, Bool.and_eq_true, decide_eq_true_eq]
        exact ⟨⟨h1, h2⟩, ih (b + 1) h3 (by omega)⟩

/-- Every write of a 16-bit address keeps the canonical form. -/
theorem Memory.wf_set (m : Memory) (a : Word) (v : Byte) (h : m.wf = true) : (Memory.set m a.toNat v).wf = true :=
  Memory.wfFrom_set m 0 a.toNat v h (Nat.zero_le _) a.isLt

theorem Memory.wf_place (m : Memory) (a : Word) (vs : List Byte) (h : m.wf = true) : (m.place a vs).wf = true := by
  induction vs generalizing m a with
  | nil => exact h
  | cons v vs ih => exact ih _ _ (Memory.wf_set m a v h)

@[simp] theorem State.reset_mem_wf : State.reset.mem.wf = true := rfl

/-- A dictated answer is what the next read gives, whatever its address. -/
@[simp] theorem State.busAnswer_dictated (s : State) (a : Word) (b : Byte) (t : List Byte) (h : s.answers = b :: t) :
    s.busAnswer a = b := by
  simp [State.busAnswer, h]

/-- A listed byte is what a read gives when no answer is dictated. -/
theorem State.busAnswer_listed (s : State) (a : Word) (b : Byte) (h : s.answers = [])
    (hm : s.mem.get? a.toNat = some b) : s.busAnswer a = b := by
  simp [State.busAnswer, h, hm]

end Sys2Proof.Machine
end

