-- ==== Sys2Proof/Laws/State.lean ====
section
/-! SUPPORT. One lemma per field per update of the state, so that no later proof unfolds a record update. -/

namespace Sys2Proof.Machine

/-! `State.setRegs` -/

@[simp] theorem State.setRegs_regs (s : State) (r : RegFile) : (s.setRegs r).regs = r := rfl
@[simp] theorem State.setRegs_params (s : State) (r : RegFile) : (s.setRegs r).params = s.params := rfl
@[simp] theorem State.setRegs_mem (s : State) (r : RegFile) : (s.setRegs r).mem = s.mem := rfl
@[simp] theorem State.setRegs_answers (s : State) (r : RegFile) : (s.setRegs r).answers = s.answers := rfl
@[simp] theorem State.setRegs_reads (s : State) (r : RegFile) : (s.setRegs r).reads = s.reads := rfl
@[simp] theorem State.setRegs_requests (s : State) (r : RegFile) : (s.setRegs r).requests = s.requests := rfl
@[simp] theorem State.setRegs_fields (s : State) (r : RegFile) : (s.setRegs r).fields = s.fields := rfl
@[simp] theorem State.setRegs_sink (s : State) (r : RegFile) : (s.setRegs r).sink = s.sink := rfl
@[simp] theorem State.setRegs_reports (s : State) (r : RegFile) : (s.setRegs r).reports = s.reports := rfl
@[simp] theorem State.setRegs_ret (s : State) (r : RegFile) : (s.setRegs r).ret = s.ret := rfl

/-! `State.returns` -/

@[simp] theorem State.returns_regs (s : State) (v : Ret) : (s.returns v).regs = s.regs := rfl
@[simp] theorem State.returns_params (s : State) (v : Ret) : (s.returns v).params = s.params := rfl
@[simp] theorem State.returns_mem (s : State) (v : Ret) : (s.returns v).mem = s.mem := rfl
@[simp] theorem State.returns_answers (s : State) (v : Ret) : (s.returns v).answers = s.answers := rfl
@[simp] theorem State.returns_reads (s : State) (v : Ret) : (s.returns v).reads = s.reads := rfl
@[simp] theorem State.returns_requests (s : State) (v : Ret) : (s.returns v).requests = s.requests := rfl
@[simp] theorem State.returns_fields (s : State) (v : Ret) : (s.returns v).fields = s.fields := rfl
@[simp] theorem State.returns_sink (s : State) (v : Ret) : (s.returns v).sink = s.sink := rfl
@[simp] theorem State.returns_reports (s : State) (v : Ret) : (s.returns v).reports = s.reports := rfl
@[simp] theorem State.returns_ret (s : State) (v : Ret) : (s.returns v).ret = v := rfl

/-! `State.emitLine` -/

@[simp] theorem State.emitLine_regs (s : State) (l : String) : (s.emitLine l).regs = s.regs := rfl
@[simp] theorem State.emitLine_params (s : State) (l : String) : (s.emitLine l).params = s.params := rfl
@[simp] theorem State.emitLine_mem (s : State) (l : String) : (s.emitLine l).mem = s.mem := rfl
@[simp] theorem State.emitLine_answers (s : State) (l : String) : (s.emitLine l).answers = s.answers := rfl
@[simp] theorem State.emitLine_reads (s : State) (l : String) : (s.emitLine l).reads = s.reads := rfl
@[simp] theorem State.emitLine_requests (s : State) (l : String) : (s.emitLine l).requests = s.requests := rfl
@[simp] theorem State.emitLine_fields (s : State) (l : String) : (s.emitLine l).fields = [] := rfl
@[simp] theorem State.emitLine_sink (s : State) (l : String) : (s.emitLine l).sink = s.sink ++ [l] := rfl
@[simp] theorem State.emitLine_reports (s : State) (l : String) : (s.emitLine l).reports = s.reports := rfl
@[simp] theorem State.emitLine_ret (s : State) (l : String) : (s.emitLine l).ret = .text l := rfl

/-! `State.afterRead` -/

@[simp] theorem State.afterRead_regs (s : State) (a : Word) : (s.afterRead a).regs = s.regs := rfl
@[simp] theorem State.afterRead_params (s : State) (a : Word) : (s.afterRead a).params = s.params := rfl
@[simp] theorem State.afterRead_mem (s : State) (a : Word) : (s.afterRead a).mem = s.mem := rfl
@[simp] theorem State.afterRead_answers (s : State) (a : Word) : (s.afterRead a).answers = s.answers.tail := rfl
@[simp] theorem State.afterRead_reads (s : State) (a : Word) : (s.afterRead a).reads = s.reads ++ [a] := rfl
@[simp] theorem State.afterRead_requests (s : State) (a : Word) : (s.afterRead a).requests = s.requests := rfl
@[simp] theorem State.afterRead_fields (s : State) (a : Word) : (s.afterRead a).fields = s.fields := rfl
@[simp] theorem State.afterRead_sink (s : State) (a : Word) : (s.afterRead a).sink = s.sink := rfl
@[simp] theorem State.afterRead_reports (s : State) (a : Word) : (s.afterRead a).reports = s.reports := rfl
@[simp] theorem State.afterRead_ret (s : State) (a : Word) : (s.afterRead a).ret = s.ret := rfl

/-! `State.addField` -/

@[simp] theorem State.addField_regs (s : State) (f : String) : (s.addField f).regs = s.regs := rfl
@[simp] theorem State.addField_params (s : State) (f : String) : (s.addField f).params = s.params := rfl
@[simp] theorem State.addField_mem (s : State) (f : String) : (s.addField f).mem = s.mem := rfl
@[simp] theorem State.addField_answers (s : State) (f : String) : (s.addField f).answers = s.answers := rfl
@[simp] theorem State.addField_reads (s : State) (f : String) : (s.addField f).reads = s.reads := rfl
@[simp] theorem State.addField_requests (s : State) (f : String) : (s.addField f).requests = s.requests := rfl
@[simp] theorem State.addField_fields (s : State) (f : String) : (s.addField f).fields = s.fields ++ [f] := rfl
@[simp] theorem State.addField_sink (s : State) (f : String) : (s.addField f).sink = s.sink := rfl
@[simp] theorem State.addField_reports (s : State) (f : String) : (s.addField f).reports = s.reports := rfl
@[simp] theorem State.addField_ret (s : State) (f : String) : (s.addField f).ret = s.ret := rfl

/-! `State.beginFields` -/

@[simp] theorem State.beginFields_regs (s : State) : (s.beginFields).regs = s.regs := rfl
@[simp] theorem State.beginFields_params (s : State) : (s.beginFields).params = s.params := rfl
@[simp] theorem State.beginFields_mem (s : State) : (s.beginFields).mem = s.mem := rfl
@[simp] theorem State.beginFields_answers (s : State) : (s.beginFields).answers = s.answers := rfl
@[simp] theorem State.beginFields_reads (s : State) : (s.beginFields).reads = s.reads := rfl
@[simp] theorem State.beginFields_requests (s : State) : (s.beginFields).requests = s.requests := rfl
@[simp] theorem State.beginFields_fields (s : State) : (s.beginFields).fields = [] := rfl
@[simp] theorem State.beginFields_sink (s : State) : (s.beginFields).sink = s.sink := rfl
@[simp] theorem State.beginFields_reports (s : State) : (s.beginFields).reports = s.reports := rfl
@[simp] theorem State.beginFields_ret (s : State) : (s.beginFields).ret = s.ret := rfl

/-! `RegFile.store` -/

@[simp] theorem RegFile.store_running (r : RegFile) (p : Pair) (v : Word) : (r.store p v).running = r.running := by
  cases p <;> rfl

@[simp] theorem RegFile.get16_store_same (r : RegFile) (p : Pair) (v : Word) : (r.store p v).get16 p = v := by
  cases p <;> rfl

theorem RegFile.get16_store_other (r : RegFile) (p q : Pair) (v : Word) (h : q ≠ p) :
    (r.store p v).get16 q = r.get16 q := by
  cases p <;> cases q <;> first | rfl | exact absurd rfl h

@[simp] theorem RegFile.get16_af (r : RegFile) : r.get16 .af = r.af := rfl
@[simp] theorem RegFile.get16_bc (r : RegFile) : r.get16 .bc = r.bc := rfl
@[simp] theorem RegFile.get16_de (r : RegFile) : r.get16 .de = r.de := rfl
@[simp] theorem RegFile.get16_hl (r : RegFile) : r.get16 .hl = r.hl := rfl
@[simp] theorem RegFile.get16_sp (r : RegFile) : r.get16 .sp = r.sp := rfl
@[simp] theorem RegFile.get16_pc (r : RegFile) : r.get16 .pc = r.pc := rfl

end Sys2Proof.Machine
end

