-- ==== Sys2Proof/Laws/Operands.lean ====
section
/-! SUPPORT. What each operand reader can do (42_operand_formatter.md). -/

namespace Sys2Proof.Machine

@[simp] theorem State.memRead_fst (s : State) (a : Word) : (s.memRead a).1 = s.busAnswer a := rfl

@[simp] theorem State.memRead_snd (s : State) (a : Word) : (s.memRead a).2 = s.afterRead a := rfl

theorem readImmediate8_eq (s : State) :
    readImmediate8 s = (s.busAnswer (s.regs.pc + 1), s.afterRead (s.regs.pc + 1)) := rfl

/-- The low byte is read first, the high byte second, and the value is little-endian. -/
theorem readImmediate16_eq (s : State) :
    readImmediate16 s =
      (joinBytes ((s.afterRead (s.regs.pc + 1)).busAnswer (s.regs.pc + 2)) (s.busAnswer (s.regs.pc + 1)),
        (s.afterRead (s.regs.pc + 1)).afterRead (s.regs.pc + 2)) := rfl

theorem readAddress16_eq (s : State) : readAddress16 s = readImmediate16 s := rfl

theorem readSignedRelative8_eq (s : State) :
    readSignedRelative8 s = (signExtend8 (s.busAnswer (s.regs.pc + 1)), s.afterRead (s.regs.pc + 1)) := rfl

/-- On a natural number the two decimal renderings agree. -/
@[simp] theorem dec_natCast (n : Nat) : dec n = decNat n := by
  simp [dec]

end Sys2Proof.Machine
end

