-- ==== Sys2Proof/Laws/PerInstr.lean ====
section
/-! SUPPORT. Per instruction: decoding the bytes that `encode` gives for a well-formed instruction gives the
instruction back, with every operand it had. -/

namespace Sys2Proof

/-- The round trip of one instruction. -/
def Laws.RoundTrip.Statement (i : Instr) : Prop := i.wellFormed = true → decode (encode i) = .ok (i, [])

theorem Laws.RoundTrip.nop : Laws.RoundTrip.Statement .nop := fun _ => rfl
theorem Laws.RoundTrip.ldBcD16 (v : Word) : Laws.RoundTrip.Statement (.ldBcD16 v) := fun _ =>
  congrArg (fun x => Except.ok (Instr.ldBcD16 x, [])) (joinBytes_high_low v)
theorem Laws.RoundTrip.ldAtBcA : Laws.RoundTrip.Statement .ldAtBcA := fun _ => rfl
theorem Laws.RoundTrip.incBc : Laws.RoundTrip.Statement .incBc := fun _ => rfl
theorem Laws.RoundTrip.incB : Laws.RoundTrip.Statement .incB := fun _ => rfl
theorem Laws.RoundTrip.decB : Laws.RoundTrip.Statement .decB := fun _ => rfl
theorem Laws.RoundTrip.ldBD8 (v : Byte) : Laws.RoundTrip.Statement (.ldBD8 v) := fun _ => rfl
theorem Laws.RoundTrip.rlca : Laws.RoundTrip.Statement .rlca := fun _ => rfl
theorem Laws.RoundTrip.ldAtA16Sp (a : Word) : Laws.RoundTrip.Statement (.ldAtA16Sp a) := fun _ =>
  congrArg (fun x => Except.ok (Instr.ldAtA16Sp x, [])) (joinBytes_high_low a)
theorem Laws.RoundTrip.addHlBc : Laws.RoundTrip.Statement .addHlBc := fun _ => rfl
theorem Laws.RoundTrip.ldAAtBc : Laws.RoundTrip.Statement .ldAAtBc := fun _ => rfl
theorem Laws.RoundTrip.decBc : Laws.RoundTrip.Statement .decBc := fun _ => rfl
theorem Laws.RoundTrip.incC : Laws.RoundTrip.Statement .incC := fun _ => rfl
theorem Laws.RoundTrip.decC : Laws.RoundTrip.Statement .decC := fun _ => rfl
theorem Laws.RoundTrip.ldCD8 (v : Byte) : Laws.RoundTrip.Statement (.ldCD8 v) := fun _ => rfl
theorem Laws.RoundTrip.rrca : Laws.RoundTrip.Statement .rrca := fun _ => rfl
theorem Laws.RoundTrip.stop0 : Laws.RoundTrip.Statement .stop0 := fun _ => rfl
theorem Laws.RoundTrip.ldDeD16 (v : Word) : Laws.RoundTrip.Statement (.ldDeD16 v) := fun _ =>
  congrArg (fun x => Except.ok (Instr.ldDeD16 x, [])) (joinBytes_high_low v)
theorem Laws.RoundTrip.ldAtDeA : Laws.RoundTrip.Statement .ldAtDeA := fun _ => rfl
theorem Laws.RoundTrip.incDe : Laws.RoundTrip.Statement .incDe := fun _ => rfl
theorem Laws.RoundTrip.incD : Laws.RoundTrip.Statement .incD := fun _ => rfl
theorem Laws.RoundTrip.decD : Laws.RoundTrip.Statement .decD := fun _ => rfl
theorem Laws.RoundTrip.ldDD8 (v : Byte) : Laws.RoundTrip.Statement (.ldDD8 v) := fun _ => rfl
theorem Laws.RoundTrip.rla : Laws.RoundTrip.Statement .rla := fun _ => rfl
theorem Laws.RoundTrip.jrR8 (d : Int) : Laws.RoundTrip.Statement (.jrR8 d) := fun h =>
  congrArg (fun x => Except.ok (Instr.jrR8 x, [])) (signExtend8_i8Byte d h)
theorem Laws.RoundTrip.addHlDe : Laws.RoundTrip.Statement .addHlDe := fun _ => rfl
theorem Laws.RoundTrip.ldAAtDe : Laws.RoundTrip.Statement .ldAAtDe := fun _ => rfl
theorem Laws.RoundTrip.decDe : Laws.RoundTrip.Statement .decDe := fun _ => rfl
theorem Laws.RoundTrip.incE : Laws.RoundTrip.Statement .incE := fun _ => rfl
theorem Laws.RoundTrip.decE : Laws.RoundTrip.Statement .decE := fun _ => rfl
theorem Laws.RoundTrip.ldED8 (v : Byte) : Laws.RoundTrip.Statement (.ldED8 v) := fun _ => rfl
theorem Laws.RoundTrip.rra : Laws.RoundTrip.Statement .rra := fun _ => rfl
theorem Laws.RoundTrip.jrNzR8 (d : Int) : Laws.RoundTrip.Statement (.jrNzR8 d) := fun h =>
  congrArg (fun x => Except.ok (Instr.jrNzR8 x, [])) (signExtend8_i8Byte d h)
theorem Laws.RoundTrip.ldHlD16 (v : Word) : Laws.RoundTrip.Statement (.ldHlD16 v) := fun _ =>
  congrArg (fun x => Except.ok (Instr.ldHlD16 x, [])) (joinBytes_high_low v)
theorem Laws.RoundTrip.ldAtHlIncA : Laws.RoundTrip.Statement .ldAtHlIncA := fun _ => rfl
theorem Laws.RoundTrip.incHl : Laws.RoundTrip.Statement .incHl := fun _ => rfl
theorem Laws.RoundTrip.incH : Laws.RoundTrip.Statement .incH := fun _ => rfl
theorem Laws.RoundTrip.decH : Laws.RoundTrip.Statement .decH := fun _ => rfl
theorem Laws.RoundTrip.ldHD8 (v : Byte) : Laws.RoundTrip.Statement (.ldHD8 v) := fun _ => rfl
theorem Laws.RoundTrip.daa : Laws.RoundTrip.Statement .daa := fun _ => rfl
theorem Laws.RoundTrip.jrZR8 (d : Int) : Laws.RoundTrip.Statement (.jrZR8 d) := fun h =>
  congrArg (fun x => Except.ok (Instr.jrZR8 x, [])) (signExtend8_i8Byte d h)
theorem Laws.RoundTrip.addHlHl : Laws.RoundTrip.Statement .addHlHl := fun _ => rfl
theorem Laws.RoundTrip.ldAAtHlInc : Laws.RoundTrip.Statement .ldAAtHlInc := fun _ => rfl
theorem Laws.RoundTrip.decHl : Laws.RoundTrip.Statement .decHl := fun _ => rfl
theorem Laws.RoundTrip.incL : Laws.RoundTrip.Statement .incL := fun _ => rfl
theorem Laws.RoundTrip.decL : Laws.RoundTrip.Statement .decL := fun _ => rfl
theorem Laws.RoundTrip.ldLD8 (v : Byte) : Laws.RoundTrip.Statement (.ldLD8 v) := fun _ => rfl
theorem Laws.RoundTrip.cpl : Laws.RoundTrip.Statement .cpl := fun _ => rfl
theorem Laws.RoundTrip.jrNcR8 (d : Int) : Laws.RoundTrip.Statement (.jrNcR8 d) := fun h =>
  congrArg (fun x => Except.ok (Instr.jrNcR8 x, [])) (signExtend8_i8Byte d h)
theorem Laws.RoundTrip.ldSpD16 (v : Word) : Laws.RoundTrip.Statement (.ldSpD16 v) := fun _ =>
  congrArg (fun x => Except.ok (Instr.ldSpD16 x, [])) (joinBytes_high_low v)
theorem Laws.RoundTrip.ldAtHlDecA : Laws.RoundTrip.Statement .ldAtHlDecA := fun _ => rfl
theorem Laws.RoundTrip.incSp : Laws.RoundTrip.Statement .incSp := fun _ => rfl
theorem Laws.RoundTrip.incAtHl : Laws.RoundTrip.Statement .incAtHl := fun _ => rfl
theorem Laws.RoundTrip.decAtHl : Laws.RoundTrip.Statement .decAtHl := fun _ => rfl
theorem Laws.RoundTrip.ldAtHlD8 (v : Byte) : Laws.RoundTrip.Statement (.ldAtHlD8 v) := fun _ => rfl
theorem Laws.RoundTrip.scf : Laws.RoundTrip.Statement .scf := fun _ => rfl
theorem Laws.RoundTrip.jrCR8 (d : Int) : Laws.RoundTrip.Statement (.jrCR8 d) := fun h =>
  congrArg (fun x => Except.ok (Instr.jrCR8 x, [])) (signExtend8_i8Byte d h)
theorem Laws.RoundTrip.addHlSp : Laws.RoundTrip.Statement .addHlSp := fun _ => rfl
theorem Laws.RoundTrip.ldAAtHlDec : Laws.RoundTrip.Statement .ldAAtHlDec := fun _ => rfl
theorem Laws.RoundTrip.decSp : Laws.RoundTrip.Statement .decSp := fun _ => rfl
theorem Laws.RoundTrip.incA : Laws.RoundTrip.Statement .incA := fun _ => rfl
theorem Laws.RoundTrip.decA : Laws.RoundTrip.Statement .decA := fun _ => rfl
theorem Laws.RoundTrip.ldAD8 (v : Byte) : Laws.RoundTrip.Statement (.ldAD8 v) := fun _ => rfl
theorem Laws.RoundTrip.ccf : Laws.RoundTrip.Statement .ccf := fun _ => rfl
theorem Laws.RoundTrip.ldBB : Laws.RoundTrip.Statement .ldBB := fun _ => rfl
theorem Laws.RoundTrip.ldBC : Laws.RoundTrip.Statement .ldBC := fun _ => rfl
theorem Laws.RoundTrip.ldBD : Laws.RoundTrip.Statement .ldBD := fun _ => rfl
theorem Laws.RoundTrip.ldBE : Laws.RoundTrip.Statement .ldBE := fun _ => rfl
theorem Laws.RoundTrip.ldBH : Laws.RoundTrip.Statement .ldBH := fun _ => rfl
theorem Laws.RoundTrip.ldBL : Laws.RoundTrip.Statement .ldBL := fun _ => rfl
theorem Laws.RoundTrip.ldBAtHl : Laws.RoundTrip.Statement .ldBAtHl := fun _ => rfl
theorem Laws.RoundTrip.ldBA : Laws.RoundTrip.Statement .ldBA := fun _ => rfl
theorem Laws.RoundTrip.ldCB : Laws.RoundTrip.Statement .ldCB := fun _ => rfl
theorem Laws.RoundTrip.ldCC : Laws.RoundTrip.Statement .ldCC := fun _ => rfl
theorem Laws.RoundTrip.ldCD : Laws.RoundTrip.Statement .ldCD := fun _ => rfl
theorem Laws.RoundTrip.ldCE : Laws.RoundTrip.Statement .ldCE := fun _ => rfl
theorem Laws.RoundTrip.ldCH : Laws.RoundTrip.Statement .ldCH := fun _ => rfl
theorem Laws.RoundTrip.ldCL : Laws.RoundTrip.Statement .ldCL := fun _ => rfl
theorem Laws.RoundTrip.ldCAtHl : Laws.RoundTrip.Statement .ldCAtHl := fun _ => rfl
theorem Laws.RoundTrip.ldCA : Laws.RoundTrip.Statement .ldCA := fun _ => rfl
theorem Laws.RoundTrip.ldDB : Laws.RoundTrip.Statement .ldDB := fun _ => rfl
theorem Laws.RoundTrip.ldDC : Laws.RoundTrip.Statement .ldDC := fun _ => rfl
theorem Laws.RoundTrip.ldDD : Laws.RoundTrip.Statement .ldDD := fun _ => rfl
theorem Laws.RoundTrip.ldDE : Laws.RoundTrip.Statement .ldDE := fun _ => rfl
theorem Laws.RoundTrip.ldDH : Laws.RoundTrip.Statement .ldDH := fun _ => rfl
theorem Laws.RoundTrip.ldDL : Laws.RoundTrip.Statement .ldDL := fun _ => rfl
theorem Laws.RoundTrip.ldDAtHl : Laws.RoundTrip.Statement .ldDAtHl := fun _ => rfl
theorem Laws.RoundTrip.ldDA : Laws.RoundTrip.Statement .ldDA := fun _ => rfl
theorem Laws.RoundTrip.ldEB : Laws.RoundTrip.Statement .ldEB := fun _ => rfl
theorem Laws.RoundTrip.ldEC : Laws.RoundTrip.Statement .ldEC := fun _ => rfl
theorem Laws.RoundTrip.ldED : Laws.RoundTrip.Statement .ldED := fun _ => rfl
theorem Laws.RoundTrip.ldEE : Laws.RoundTrip.Statement .ldEE := fun _ => rfl
theorem Laws.RoundTrip.ldEH : Laws.RoundTrip.Statement .ldEH := fun _ => rfl
theorem Laws.RoundTrip.ldEL : Laws.RoundTrip.Statement .ldEL := fun _ => rfl
theorem Laws.RoundTrip.ldEAtHl : Laws.RoundTrip.Statement .ldEAtHl := fun _ => rfl
theorem Laws.RoundTrip.ldEA : Laws.RoundTrip.Statement .ldEA := fun _ => rfl
theorem Laws.RoundTrip.ldHB : Laws.RoundTrip.Statement .ldHB := fun _ => rfl
theorem Laws.RoundTrip.ldHC : Laws.RoundTrip.Statement .ldHC := fun _ => rfl
theorem Laws.RoundTrip.ldHD : Laws.RoundTrip.Statement .ldHD := fun _ => rfl
theorem Laws.RoundTrip.ldHE : Laws.RoundTrip.Statement .ldHE := fun _ => rfl
theorem Laws.RoundTrip.ldHH : Laws.RoundTrip.Statement .ldHH := fun _ => rfl
theorem Laws.RoundTrip.ldHL : Laws.RoundTrip.Statement .ldHL := fun _ => rfl
theorem Laws.RoundTrip.ldHAtHl : Laws.RoundTrip.Statement .ldHAtHl := fun _ => rfl
theorem Laws.RoundTrip.ldHA : Laws.RoundTrip.Statement .ldHA := fun _ => rfl
theorem Laws.RoundTrip.ldLB : Laws.RoundTrip.Statement .ldLB := fun _ => rfl
theorem Laws.RoundTrip.ldLC : Laws.RoundTrip.Statement .ldLC := fun _ => rfl
theorem Laws.RoundTrip.ldLD : Laws.RoundTrip.Statement .ldLD := fun _ => rfl
theorem Laws.RoundTrip.ldLE : Laws.RoundTrip.Statement .ldLE := fun _ => rfl
theorem Laws.RoundTrip.ldLH : Laws.RoundTrip.Statement .ldLH := fun _ => rfl
theorem Laws.RoundTrip.ldLL : Laws.RoundTrip.Statement .ldLL := fun _ => rfl
theorem Laws.RoundTrip.ldLAtHl : Laws.RoundTrip.Statement .ldLAtHl := fun _ => rfl
theorem Laws.RoundTrip.ldLA : Laws.RoundTrip.Statement .ldLA := fun _ => rfl
theorem Laws.RoundTrip.ldAtHlB : Laws.RoundTrip.Statement .ldAtHlB := fun _ => rfl
theorem Laws.RoundTrip.ldAtHlC : Laws.RoundTrip.Statement .ldAtHlC := fun _ => rfl
theorem Laws.RoundTrip.ldAtHlD : Laws.RoundTrip.Statement .ldAtHlD := fun _ => rfl
theorem Laws.RoundTrip.ldAtHlE : Laws.RoundTrip.Statement .ldAtHlE := fun _ => rfl
theorem Laws.RoundTrip.ldAtHlH : Laws.RoundTrip.Statement .ldAtHlH := fun _ => rfl
theorem Laws.RoundTrip.ldAtHlL : Laws.RoundTrip.Statement .ldAtHlL := fun _ => rfl
theorem Laws.RoundTrip.halt : Laws.RoundTrip.Statement .halt := fun _ => rfl
theorem Laws.RoundTrip.ldAtHlA : Laws.RoundTrip.Statement .ldAtHlA := fun _ => rfl
theorem Laws.RoundTrip.ldAB : Laws.RoundTrip.Statement .ldAB := fun _ => rfl
theorem Laws.RoundTrip.ldAC : Laws.RoundTrip.Statement .ldAC := fun _ => rfl
theorem Laws.RoundTrip.ldAD : Laws.RoundTrip.Statement .ldAD := fun _ => rfl
theorem Laws.RoundTrip.ldAE : Laws.RoundTrip.Statement .ldAE := fun _ => rfl
theorem Laws.RoundTrip.ldAH : Laws.RoundTrip.Statement .ldAH := fun _ => rfl
theorem Laws.RoundTrip.ldAL : Laws.RoundTrip.Statement .ldAL := fun _ => rfl
theorem Laws.RoundTrip.ldAAtHl : Laws.RoundTrip.Statement .ldAAtHl := fun _ => rfl
theorem Laws.RoundTrip.ldAA : Laws.RoundTrip.Statement .ldAA := fun _ => rfl
theorem Laws.RoundTrip.addAB : Laws.RoundTrip.Statement .addAB := fun _ => rfl
theorem Laws.RoundTrip.addAC : Laws.RoundTrip.Statement .addAC := fun _ => rfl
theorem Laws.RoundTrip.addAD : Laws.RoundTrip.Statement .addAD := fun _ => rfl
theorem Laws.RoundTrip.addAE : Laws.RoundTrip.Statement .addAE := fun _ => rfl
theorem Laws.RoundTrip.addAH : Laws.RoundTrip.Statement .addAH := fun _ => rfl
theorem Laws.RoundTrip.addAL : Laws.RoundTrip.Statement .addAL := fun _ => rfl
theorem Laws.RoundTrip.addAAtHl : Laws.RoundTrip.Statement .addAAtHl := fun _ => rfl
theorem Laws.RoundTrip.addAA : Laws.RoundTrip.Statement .addAA := fun _ => rfl
theorem Laws.RoundTrip.adcAB : Laws.RoundTrip.Statement .adcAB := fun _ => rfl
theorem Laws.RoundTrip.adcAC : Laws.RoundTrip.Statement .adcAC := fun _ => rfl
theorem Laws.RoundTrip.adcAD : Laws.RoundTrip.Statement .adcAD := fun _ => rfl
theorem Laws.RoundTrip.adcAE : Laws.RoundTrip.Statement .adcAE := fun _ => rfl
theorem Laws.RoundTrip.adcAH : Laws.RoundTrip.Statement .adcAH := fun _ => rfl
theorem Laws.RoundTrip.adcAL : Laws.RoundTrip.Statement .adcAL := fun _ => rfl
theorem Laws.RoundTrip.adcAAtHl : Laws.RoundTrip.Statement .adcAAtHl := fun _ => rfl
theorem Laws.RoundTrip.adcAA : Laws.RoundTrip.Statement .adcAA := fun _ => rfl
theorem Laws.RoundTrip.subB : Laws.RoundTrip.Statement .subB := fun _ => rfl
theorem Laws.RoundTrip.subC : Laws.RoundTrip.Statement .subC := fun _ => rfl
theorem Laws.RoundTrip.subD : Laws.RoundTrip.Statement .subD := fun _ => rfl
theorem Laws.RoundTrip.subE : Laws.RoundTrip.Statement .subE := fun _ => rfl
theorem Laws.RoundTrip.subH : Laws.RoundTrip.Statement .subH := fun _ => rfl
theorem Laws.RoundTrip.subL : Laws.RoundTrip.Statement .subL := fun _ => rfl
theorem Laws.RoundTrip.subAtHl : Laws.RoundTrip.Statement .subAtHl := fun _ => rfl
theorem Laws.RoundTrip.subA : Laws.RoundTrip.Statement .subA := fun _ => rfl
theorem Laws.RoundTrip.sbcAB : Laws.RoundTrip.Statement .sbcAB := fun _ => rfl
theorem Laws.RoundTrip.sbcAC : Laws.RoundTrip.Statement .sbcAC := fun _ => rfl
theorem Laws.RoundTrip.sbcAD : Laws.RoundTrip.Statement .sbcAD := fun _ => rfl
theorem Laws.RoundTrip.sbcAE : Laws.RoundTrip.Statement .sbcAE := fun _ => rfl
theorem Laws.RoundTrip.sbcAH : Laws.RoundTrip.Statement .sbcAH := fun _ => rfl
theorem Laws.RoundTrip.sbcAL : Laws.RoundTrip.Statement .sbcAL := fun _ => rfl
theorem Laws.RoundTrip.sbcAAtHl : Laws.RoundTrip.Statement .sbcAAtHl := fun _ => rfl
theorem Laws.RoundTrip.sbcAA : Laws.RoundTrip.Statement .sbcAA := fun _ => rfl
theorem Laws.RoundTrip.andB : Laws.RoundTrip.Statement .andB := fun _ => rfl
theorem Laws.RoundTrip.andC : Laws.RoundTrip.Statement .andC := fun _ => rfl
theorem Laws.RoundTrip.andD : Laws.RoundTrip.Statement .andD := fun _ => rfl
theorem Laws.RoundTrip.andE : Laws.RoundTrip.Statement .andE := fun _ => rfl
theorem Laws.RoundTrip.andH : Laws.RoundTrip.Statement .andH := fun _ => rfl
theorem Laws.RoundTrip.andL : Laws.RoundTrip.Statement .andL := fun _ => rfl
theorem Laws.RoundTrip.andAtHl : Laws.RoundTrip.Statement .andAtHl := fun _ => rfl
theorem Laws.RoundTrip.andA : Laws.RoundTrip.Statement .andA := fun _ => rfl
theorem Laws.RoundTrip.xorB : Laws.RoundTrip.Statement .xorB := fun _ => rfl
theorem Laws.RoundTrip.xorC : Laws.RoundTrip.Statement .xorC := fun _ => rfl
theorem Laws.RoundTrip.xorD : Laws.RoundTrip.Statement .xorD := fun _ => rfl
theorem Laws.RoundTrip.xorE : Laws.RoundTrip.Statement .xorE := fun _ => rfl
theorem Laws.RoundTrip.xorH : Laws.RoundTrip.Statement .xorH := fun _ => rfl
theorem Laws.RoundTrip.xorL : Laws.RoundTrip.Statement .xorL := fun _ => rfl
theorem Laws.RoundTrip.xorAtHl : Laws.RoundTrip.Statement .xorAtHl := fun _ => rfl
theorem Laws.RoundTrip.xorA : Laws.RoundTrip.Statement .xorA := fun _ => rfl
theorem Laws.RoundTrip.orB : Laws.RoundTrip.Statement .orB := fun _ => rfl
theorem Laws.RoundTrip.orC : Laws.RoundTrip.Statement .orC := fun _ => rfl
theorem Laws.RoundTrip.orD : Laws.RoundTrip.Statement .orD := fun _ => rfl
theorem Laws.RoundTrip.orE : Laws.RoundTrip.Statement .orE := fun _ => rfl
theorem Laws.RoundTrip.orH : Laws.RoundTrip.Statement .orH := fun _ => rfl
theorem Laws.RoundTrip.orL : Laws.RoundTrip.Statement .orL := fun _ => rfl
theorem Laws.RoundTrip.orAtHl : Laws.RoundTrip.Statement .orAtHl := fun _ => rfl
theorem Laws.RoundTrip.orA : Laws.RoundTrip.Statement .orA := fun _ => rfl
theorem Laws.RoundTrip.cpB : Laws.RoundTrip.Statement .cpB := fun _ => rfl
theorem Laws.RoundTrip.cpC : Laws.RoundTrip.Statement .cpC := fun _ => rfl
theorem Laws.RoundTrip.cpD : Laws.RoundTrip.Statement .cpD := fun _ => rfl
theorem Laws.RoundTrip.cpE : Laws.RoundTrip.Statement .cpE := fun _ => rfl
theorem Laws.RoundTrip.cpH : Laws.RoundTrip.Statement .cpH := fun _ => rfl
theorem Laws.RoundTrip.cpL : Laws.RoundTrip.Statement .cpL := fun _ => rfl
theorem Laws.RoundTrip.cpAtHl : Laws.RoundTrip.Statement .cpAtHl := fun _ => rfl
theorem Laws.RoundTrip.cpA : Laws.RoundTrip.Statement .cpA := fun _ => rfl
theorem Laws.RoundTrip.retNz : Laws.RoundTrip.Statement .retNz := fun _ => rfl
theorem Laws.RoundTrip.popBc : Laws.RoundTrip.Statement .popBc := fun _ => rfl
theorem Laws.RoundTrip.jpNzA16 (a : Word) : Laws.RoundTrip.Statement (.jpNzA16 a) := fun _ =>
  congrArg (fun x => Except.ok (Instr.jpNzA16 x, [])) (joinBytes_high_low a)
theorem Laws.RoundTrip.jpA16 (a : Word) : Laws.RoundTrip.Statement (.jpA16 a) := fun _ =>
  congrArg (fun x => Except.ok (Instr.jpA16 x, [])) (joinBytes_high_low a)
theorem Laws.RoundTrip.callNzA16 (a : Word) : Laws.RoundTrip.Statement (.callNzA16 a) := fun _ =>
  congrArg (fun x => Except.ok (Instr.callNzA16 x, [])) (joinBytes_high_low a)
theorem Laws.RoundTrip.pushBc : Laws.RoundTrip.Statement .pushBc := fun _ => rfl
theorem Laws.RoundTrip.addAD8 (v : Byte) : Laws.RoundTrip.Statement (.addAD8 v) := fun _ => rfl
theorem Laws.RoundTrip.rst00H : Laws.RoundTrip.Statement .rst00H := fun _ => rfl
theorem Laws.RoundTrip.retZ : Laws.RoundTrip.Statement .retZ := fun _ => rfl
theorem Laws.RoundTrip.ret : Laws.RoundTrip.Statement .ret := fun _ => rfl
theorem Laws.RoundTrip.jpZA16 (a : Word) : Laws.RoundTrip.Statement (.jpZA16 a) := fun _ =>
  congrArg (fun x => Except.ok (Instr.jpZA16 x, [])) (joinBytes_high_low a)
theorem Laws.RoundTrip.callZA16 (a : Word) : Laws.RoundTrip.Statement (.callZA16 a) := fun _ =>
  congrArg (fun x => Except.ok (Instr.callZA16 x, [])) (joinBytes_high_low a)
theorem Laws.RoundTrip.callA16 (a : Word) : Laws.RoundTrip.Statement (.callA16 a) := fun _ =>
  congrArg (fun x => Except.ok (Instr.callA16 x, [])) (joinBytes_high_low a)
theorem Laws.RoundTrip.adcAD8 (v : Byte) : Laws.RoundTrip.Statement (.adcAD8 v) := fun _ => rfl
theorem Laws.RoundTrip.rst08H : Laws.RoundTrip.Statement .rst08H := fun _ => rfl
theorem Laws.RoundTrip.retNc : Laws.RoundTrip.Statement .retNc := fun _ => rfl
theorem Laws.RoundTrip.popDe : Laws.RoundTrip.Statement .popDe := fun _ => rfl
theorem Laws.RoundTrip.jpNcA16 (a : Word) : Laws.RoundTrip.Statement (.jpNcA16 a) := fun _ =>
  congrArg (fun x => Except.ok (Instr.jpNcA16 x, [])) (joinBytes_high_low a)
theorem Laws.RoundTrip.callNcA16 (a : Word) : Laws.RoundTrip.Statement (.callNcA16 a) := fun _ =>
  congrArg (fun x => Except.ok (Instr.callNcA16 x, [])) (joinBytes_high_low a)
theorem Laws.RoundTrip.pushDe : Laws.RoundTrip.Statement .pushDe := fun _ => rfl
theorem Laws.RoundTrip.subD8 (v : Byte) : Laws.RoundTrip.Statement (.subD8 v) := fun _ => rfl
theorem Laws.RoundTrip.rst10H : Laws.RoundTrip.Statement .rst10H := fun _ => rfl
theorem Laws.RoundTrip.retC : Laws.RoundTrip.Statement .retC := fun _ => rfl
theorem Laws.RoundTrip.reti : Laws.RoundTrip.Statement .reti := fun _ => rfl
theorem Laws.RoundTrip.jpCA16 (a : Word) : Laws.RoundTrip.Statement (.jpCA16 a) := fun _ =>
  congrArg (fun x => Except.ok (Instr.jpCA16 x, [])) (joinBytes_high_low a)
theorem Laws.RoundTrip.callCA16 (a : Word) : Laws.RoundTrip.Statement (.callCA16 a) := fun _ =>
  congrArg (fun x => Except.ok (Instr.callCA16 x, [])) (joinBytes_high_low a)
theorem Laws.RoundTrip.sbcAD8 (v : Byte) : Laws.RoundTrip.Statement (.sbcAD8 v) := fun _ => rfl
theorem Laws.RoundTrip.rst18H : Laws.RoundTrip.Statement .rst18H := fun _ => rfl
theorem Laws.RoundTrip.ldhAtA8A (v : Byte) : Laws.RoundTrip.Statement (.ldhAtA8A v) := fun _ => rfl
theorem Laws.RoundTrip.popHl : Laws.RoundTrip.Statement .popHl := fun _ => rfl
theorem Laws.RoundTrip.ldAtCA : Laws.RoundTrip.Statement .ldAtCA := fun _ => rfl
theorem Laws.RoundTrip.pushHl : Laws.RoundTrip.Statement .pushHl := fun _ => rfl
theorem Laws.RoundTrip.andD8 (v : Byte) : Laws.RoundTrip.Statement (.andD8 v) := fun _ => rfl
theorem Laws.RoundTrip.rst20H : Laws.RoundTrip.Statement .rst20H := fun _ => rfl
theorem Laws.RoundTrip.addSpR8 (d : Int) : Laws.RoundTrip.Statement (.addSpR8 d) := fun h =>
  congrArg (fun x => Except.ok (Instr.addSpR8 x, [])) (signExtend8_i8Byte d h)
theorem Laws.RoundTrip.jpAtHl : Laws.RoundTrip.Statement .jpAtHl := fun _ => rfl
theorem Laws.RoundTrip.ldAtA16A (a : Word) : Laws.RoundTrip.Statement (.ldAtA16A a) := fun _ =>
  congrArg (fun x => Except.ok (Instr.ldAtA16A x, [])) (joinBytes_high_low a)
theorem Laws.RoundTrip.xorD8 (v : Byte) : Laws.RoundTrip.Statement (.xorD8 v) := fun _ => rfl
theorem Laws.RoundTrip.rst28H : Laws.RoundTrip.Statement .rst28H := fun _ => rfl
theorem Laws.RoundTrip.ldhAAtA8 (v : Byte) : Laws.RoundTrip.Statement (.ldhAAtA8 v) := fun _ => rfl
theorem Laws.RoundTrip.popAf : Laws.RoundTrip.Statement .popAf := fun _ => rfl
theorem Laws.RoundTrip.ldAAtC : Laws.RoundTrip.Statement .ldAAtC := fun _ => rfl
theorem Laws.RoundTrip.di : Laws.RoundTrip.Statement .di := fun _ => rfl
theorem Laws.RoundTrip.pushAf : Laws.RoundTrip.Statement .pushAf := fun _ => rfl
theorem Laws.RoundTrip.orD8 (v : Byte) : Laws.RoundTrip.Statement (.orD8 v) := fun _ => rfl
theorem Laws.RoundTrip.rst30H : Laws.RoundTrip.Statement .rst30H := fun _ => rfl
theorem Laws.RoundTrip.ldHlSpPlusR8 (d : Int) : Laws.RoundTrip.Statement (.ldHlSpPlusR8 d) := fun h =>
  congrArg (fun x => Except.ok (Instr.ldHlSpPlusR8 x, [])) (signExtend8_i8Byte d h)
theorem Laws.RoundTrip.ldSpHl : Laws.RoundTrip.Statement .ldSpHl := fun _ => rfl
theorem Laws.RoundTrip.ldAAtA16 (a : Word) : Laws.RoundTrip.Statement (.ldAAtA16 a) := fun _ =>
  congrArg (fun x => Except.ok (Instr.ldAAtA16 x, [])) (joinBytes_high_low a)
theorem Laws.RoundTrip.ei : Laws.RoundTrip.Statement .ei := fun _ => rfl
theorem Laws.RoundTrip.cpD8 (v : Byte) : Laws.RoundTrip.Statement (.cpD8 v) := fun _ => rfl
theorem Laws.RoundTrip.rst38H : Laws.RoundTrip.Statement .rst38H := fun _ => rfl
theorem Laws.RoundTrip.prefixCb : Laws.RoundTrip.Statement .prefixCb := fun _ => rfl
theorem Laws.RoundTrip.undefD3 : Laws.RoundTrip.Statement .undefD3 := fun _ => rfl
theorem Laws.RoundTrip.undefDB : Laws.RoundTrip.Statement .undefDB := fun _ => rfl
theorem Laws.RoundTrip.undefDD : Laws.RoundTrip.Statement .undefDD := fun _ => rfl
theorem Laws.RoundTrip.undefE3 : Laws.RoundTrip.Statement .undefE3 := fun _ => rfl
theorem Laws.RoundTrip.undefE4 : Laws.RoundTrip.Statement .undefE4 := fun _ => rfl
theorem Laws.RoundTrip.undefEB : Laws.RoundTrip.Statement .undefEB := fun _ => rfl
theorem Laws.RoundTrip.undefEC : Laws.RoundTrip.Statement .undefEC := fun _ => rfl
theorem Laws.RoundTrip.undefED : Laws.RoundTrip.Statement .undefED := fun _ => rfl
theorem Laws.RoundTrip.undefF4 : Laws.RoundTrip.Statement .undefF4 := fun _ => rfl
theorem Laws.RoundTrip.undefFC : Laws.RoundTrip.Statement .undefFC := fun _ => rfl
theorem Laws.RoundTrip.undefFD : Laws.RoundTrip.Statement .undefFD := fun _ => rfl
theorem Laws.RoundTrip.rlcB : Laws.RoundTrip.Statement .rlcB := fun _ => rfl
theorem Laws.RoundTrip.rlcC : Laws.RoundTrip.Statement .rlcC := fun _ => rfl
theorem Laws.RoundTrip.rlcD : Laws.RoundTrip.Statement .rlcD := fun _ => rfl
theorem Laws.RoundTrip.rlcE : Laws.RoundTrip.Statement .rlcE := fun _ => rfl
theorem Laws.RoundTrip.rlcH : Laws.RoundTrip.Statement .rlcH := fun _ => rfl
theorem Laws.RoundTrip.rlcL : Laws.RoundTrip.Statement .rlcL := fun _ => rfl
theorem Laws.RoundTrip.rlcAtHl : Laws.RoundTrip.Statement .rlcAtHl := fun _ => rfl
theorem Laws.RoundTrip.rlcA : Laws.RoundTrip.Statement .rlcA := fun _ => rfl
theorem Laws.RoundTrip.rrcB : Laws.RoundTrip.Statement .rrcB := fun _ => rfl
theorem Laws.RoundTrip.rrcC : Laws.RoundTrip.Statement .rrcC := fun _ => rfl
theorem Laws.RoundTrip.rrcD : Laws.RoundTrip.Statement .rrcD := fun _ => rfl
theorem Laws.RoundTrip.rrcE : Laws.RoundTrip.Statement .rrcE := fun _ => rfl
theorem Laws.RoundTrip.rrcH : Laws.RoundTrip.Statement .rrcH := fun _ => rfl
theorem Laws.RoundTrip.rrcL : Laws.RoundTrip.Statement .rrcL := fun _ => rfl
theorem Laws.RoundTrip.rrcAtHl : Laws.RoundTrip.Statement .rrcAtHl := fun _ => rfl
theorem Laws.RoundTrip.rrcA : Laws.RoundTrip.Statement .rrcA := fun _ => rfl
theorem Laws.RoundTrip.rlB : Laws.RoundTrip.Statement .rlB := fun _ => rfl
theorem Laws.RoundTrip.rlC : Laws.RoundTrip.Statement .rlC := fun _ => rfl
theorem Laws.RoundTrip.rlD : Laws.RoundTrip.Statement .rlD := fun _ => rfl
theorem Laws.RoundTrip.rlE : Laws.RoundTrip.Statement .rlE := fun _ => rfl
theorem Laws.RoundTrip.rlH : Laws.RoundTrip.Statement .rlH := fun _ => rfl
theorem Laws.RoundTrip.rlL : Laws.RoundTrip.Statement .rlL := fun _ => rfl
theorem Laws.RoundTrip.rlAtHl : Laws.RoundTrip.Statement .rlAtHl := fun _ => rfl
theorem Laws.RoundTrip.rlA : Laws.RoundTrip.Statement .rlA := fun _ => rfl
theorem Laws.RoundTrip.rrB : Laws.RoundTrip.Statement .rrB := fun _ => rfl
theorem Laws.RoundTrip.rrC : Laws.RoundTrip.Statement .rrC := fun _ => rfl
theorem Laws.RoundTrip.rrD : Laws.RoundTrip.Statement .rrD := fun _ => rfl
theorem Laws.RoundTrip.rrE : Laws.RoundTrip.Statement .rrE := fun _ => rfl
theorem Laws.RoundTrip.rrH : Laws.RoundTrip.Statement .rrH := fun _ => rfl
theorem Laws.RoundTrip.rrL : Laws.RoundTrip.Statement .rrL := fun _ => rfl
theorem Laws.RoundTrip.rrAtHl : Laws.RoundTrip.Statement .rrAtHl := fun _ => rfl
theorem Laws.RoundTrip.rrA : Laws.RoundTrip.Statement .rrA := fun _ => rfl
theorem Laws.RoundTrip.slaB : Laws.RoundTrip.Statement .slaB := fun _ => rfl
theorem Laws.RoundTrip.slaC : Laws.RoundTrip.Statement .slaC := fun _ => rfl
theorem Laws.RoundTrip.slaD : Laws.RoundTrip.Statement .slaD := fun _ => rfl
theorem Laws.RoundTrip.slaE : Laws.RoundTrip.Statement .slaE := fun _ => rfl
theorem Laws.RoundTrip.slaH : Laws.RoundTrip.Statement .slaH := fun _ => rfl
theorem Laws.RoundTrip.slaL : Laws.RoundTrip.Statement .slaL := fun _ => rfl
theorem Laws.RoundTrip.slaAtHl : Laws.RoundTrip.Statement .slaAtHl := fun _ => rfl
theorem Laws.RoundTrip.slaA : Laws.RoundTrip.Statement .slaA := fun _ => rfl
theorem Laws.RoundTrip.sraB : Laws.RoundTrip.Statement .sraB := fun _ => rfl
theorem Laws.RoundTrip.sraC : Laws.RoundTrip.Statement .sraC := fun _ => rfl
theorem Laws.RoundTrip.sraD : Laws.RoundTrip.Statement .sraD := fun _ => rfl
theorem Laws.RoundTrip.sraE : Laws.RoundTrip.Statement .sraE := fun _ => rfl
theorem Laws.RoundTrip.sraH : Laws.RoundTrip.Statement .sraH := fun _ => rfl
theorem Laws.RoundTrip.sraL : Laws.RoundTrip.Statement .sraL := fun _ => rfl
theorem Laws.RoundTrip.sraAtHl : Laws.RoundTrip.Statement .sraAtHl := fun _ => rfl
theorem Laws.RoundTrip.sraA : Laws.RoundTrip.Statement .sraA := fun _ => rfl
theorem Laws.RoundTrip.swapB : Laws.RoundTrip.Statement .swapB := fun _ => rfl
theorem Laws.RoundTrip.swapC : Laws.RoundTrip.Statement .swapC := fun _ => rfl
theorem Laws.RoundTrip.swapD : Laws.RoundTrip.Statement .swapD := fun _ => rfl
theorem Laws.RoundTrip.swapE : Laws.RoundTrip.Statement .swapE := fun _ => rfl
theorem Laws.RoundTrip.swapH : Laws.RoundTrip.Statement .swapH := fun _ => rfl
theorem Laws.RoundTrip.swapL : Laws.RoundTrip.Statement .swapL := fun _ => rfl
theorem Laws.RoundTrip.swapAtHl : Laws.RoundTrip.Statement .swapAtHl := fun _ => rfl
theorem Laws.RoundTrip.swapA : Laws.RoundTrip.Statement .swapA := fun _ => rfl
theorem Laws.RoundTrip.srlB : Laws.RoundTrip.Statement .srlB := fun _ => rfl
theorem Laws.RoundTrip.srlC : Laws.RoundTrip.Statement .srlC := fun _ => rfl
theorem Laws.RoundTrip.srlD : Laws.RoundTrip.Statement .srlD := fun _ => rfl
theorem Laws.RoundTrip.srlE : Laws.RoundTrip.Statement .srlE := fun _ => rfl
theorem Laws.RoundTrip.srlH : Laws.RoundTrip.Statement .srlH := fun _ => rfl
theorem Laws.RoundTrip.srlL : Laws.RoundTrip.Statement .srlL := fun _ => rfl
theorem Laws.RoundTrip.srlAtHl : Laws.RoundTrip.Statement .srlAtHl := fun _ => rfl
theorem Laws.RoundTrip.srlA : Laws.RoundTrip.Statement .srlA := fun _ => rfl
theorem Laws.RoundTrip.bit0B : Laws.RoundTrip.Statement .bit0B := fun _ => rfl
theorem Laws.RoundTrip.bit0C : Laws.RoundTrip.Statement .bit0C := fun _ => rfl
theorem Laws.RoundTrip.bit0D : Laws.RoundTrip.Statement .bit0D := fun _ => rfl
theorem Laws.RoundTrip.bit0E : Laws.RoundTrip.Statement .bit0E := fun _ => rfl
theorem Laws.RoundTrip.bit0H : Laws.RoundTrip.Statement .bit0H := fun _ => rfl
theorem Laws.RoundTrip.bit0L : Laws.RoundTrip.Statement .bit0L := fun _ => rfl
theorem Laws.RoundTrip.bit0AtHl : Laws.RoundTrip.Statement .bit0AtHl := fun _ => rfl
theorem Laws.RoundTrip.bit0A : Laws.RoundTrip.Statement .bit0A := fun _ => rfl
theorem Laws.RoundTrip.bit1B : Laws.RoundTrip.Statement .bit1B := fun _ => rfl
theorem Laws.RoundTrip.bit1C : Laws.RoundTrip.Statement .bit1C := fun _ => rfl
theorem Laws.RoundTrip.bit1D : Laws.RoundTrip.Statement .bit1D := fun _ => rfl
theorem Laws.RoundTrip.bit1E : Laws.RoundTrip.Statement .bit1E := fun _ => rfl
theorem Laws.RoundTrip.bit1H : Laws.RoundTrip.Statement .bit1H := fun _ => rfl
theorem Laws.RoundTrip.bit1L : Laws.RoundTrip.Statement .bit1L := fun _ => rfl
theorem Laws.RoundTrip.bit1AtHl : Laws.RoundTrip.Statement .bit1AtHl := fun _ => rfl
theorem Laws.RoundTrip.bit1A : Laws.RoundTrip.Statement .bit1A := fun _ => rfl
theorem Laws.RoundTrip.bit2B : Laws.RoundTrip.Statement .bit2B := fun _ => rfl
theorem Laws.RoundTrip.bit2C : Laws.RoundTrip.Statement .bit2C := fun _ => rfl
theorem Laws.RoundTrip.bit2D : Laws.RoundTrip.Statement .bit2D := fun _ => rfl
theorem Laws.RoundTrip.bit2E : Laws.RoundTrip.Statement .bit2E := fun _ => rfl
theorem Laws.RoundTrip.bit2H : Laws.RoundTrip.Statement .bit2H := fun _ => rfl
theorem Laws.RoundTrip.bit2L : Laws.RoundTrip.Statement .bit2L := fun _ => rfl
theorem Laws.RoundTrip.bit2AtHl : Laws.RoundTrip.Statement .bit2AtHl := fun _ => rfl
theorem Laws.RoundTrip.bit2A : Laws.RoundTrip.Statement .bit2A := fun _ => rfl
theorem Laws.RoundTrip.bit3B : Laws.RoundTrip.Statement .bit3B := fun _ => rfl
theorem Laws.RoundTrip.bit3C : Laws.RoundTrip.Statement .bit3C := fun _ => rfl
theorem Laws.RoundTrip.bit3D : Laws.RoundTrip.Statement .bit3D := fun _ => rfl
theorem Laws.RoundTrip.bit3E : Laws.RoundTrip.Statement .bit3E := fun _ => rfl
theorem Laws.RoundTrip.bit3H : Laws.RoundTrip.Statement .bit3H := fun _ => rfl
theorem Laws.RoundTrip.bit3L : Laws.RoundTrip.Statement .bit3L := fun _ => rfl
theorem Laws.RoundTrip.bit3AtHl : Laws.RoundTrip.Statement .bit3AtHl := fun _ => rfl
theorem Laws.RoundTrip.bit3A : Laws.RoundTrip.Statement .bit3A := fun _ => rfl
theorem Laws.RoundTrip.bit4B : Laws.RoundTrip.Statement .bit4B := fun _ => rfl
theorem Laws.RoundTrip.bit4C : Laws.RoundTrip.Statement .bit4C := fun _ => rfl
theorem Laws.RoundTrip.bit4D : Laws.RoundTrip.Statement .bit4D := fun _ => rfl
theorem Laws.RoundTrip.bit4E : Laws.RoundTrip.Statement .bit4E := fun _ => rfl
theorem Laws.RoundTrip.bit4H : Laws.RoundTrip.Statement .bit4H := fun _ => rfl
theorem Laws.RoundTrip.bit4L : Laws.RoundTrip.Statement .bit4L := fun _ => rfl
theorem Laws.RoundTrip.bit4AtHl : Laws.RoundTrip.Statement .bit4AtHl := fun _ => rfl
theorem Laws.RoundTrip.bit4A : Laws.RoundTrip.Statement .bit4A := fun _ => rfl
theorem Laws.RoundTrip.bit5B : Laws.RoundTrip.Statement .bit5B := fun _ => rfl
theorem Laws.RoundTrip.bit5C : Laws.RoundTrip.Statement .bit5C := fun _ => rfl
theorem Laws.RoundTrip.bit5D : Laws.RoundTrip.Statement .bit5D := fun _ => rfl
theorem Laws.RoundTrip.bit5E : Laws.RoundTrip.Statement .bit5E := fun _ => rfl
theorem Laws.RoundTrip.bit5H : Laws.RoundTrip.Statement .bit5H := fun _ => rfl
theorem Laws.RoundTrip.bit5L : Laws.RoundTrip.Statement .bit5L := fun _ => rfl
theorem Laws.RoundTrip.bit5AtHl : Laws.RoundTrip.Statement .bit5AtHl := fun _ => rfl
theorem Laws.RoundTrip.bit5A : Laws.RoundTrip.Statement .bit5A := fun _ => rfl
theorem Laws.RoundTrip.bit6B : Laws.RoundTrip.Statement .bit6B := fun _ => rfl
theorem Laws.RoundTrip.bit6C : Laws.RoundTrip.Statement .bit6C := fun _ => rfl
theorem Laws.RoundTrip.bit6D : Laws.RoundTrip.Statement .bit6D := fun _ => rfl
theorem Laws.RoundTrip.bit6E : Laws.RoundTrip.Statement .bit6E := fun _ => rfl
theorem Laws.RoundTrip.bit6H : Laws.RoundTrip.Statement .bit6H := fun _ => rfl
theorem Laws.RoundTrip.bit6L : Laws.RoundTrip.Statement .bit6L := fun _ => rfl
theorem Laws.RoundTrip.bit6AtHl : Laws.RoundTrip.Statement .bit6AtHl := fun _ => rfl
theorem Laws.RoundTrip.bit6A : Laws.RoundTrip.Statement .bit6A := fun _ => rfl
theorem Laws.RoundTrip.bit7B : Laws.RoundTrip.Statement .bit7B := fun _ => rfl
theorem Laws.RoundTrip.bit7C : Laws.RoundTrip.Statement .bit7C := fun _ => rfl
theorem Laws.RoundTrip.bit7D : Laws.RoundTrip.Statement .bit7D := fun _ => rfl
theorem Laws.RoundTrip.bit7E : Laws.RoundTrip.Statement .bit7E := fun _ => rfl
theorem Laws.RoundTrip.bit7H : Laws.RoundTrip.Statement .bit7H := fun _ => rfl
theorem Laws.RoundTrip.bit7L : Laws.RoundTrip.Statement .bit7L := fun _ => rfl
theorem Laws.RoundTrip.bit7AtHl : Laws.RoundTrip.Statement .bit7AtHl := fun _ => rfl
theorem Laws.RoundTrip.bit7A : Laws.RoundTrip.Statement .bit7A := fun _ => rfl
theorem Laws.RoundTrip.res0B : Laws.RoundTrip.Statement .res0B := fun _ => rfl
theorem Laws.RoundTrip.res0C : Laws.RoundTrip.Statement .res0C := fun _ => rfl
theorem Laws.RoundTrip.res0D : Laws.RoundTrip.Statement .res0D := fun _ => rfl
theorem Laws.RoundTrip.res0E : Laws.RoundTrip.Statement .res0E := fun _ => rfl
theorem Laws.RoundTrip.res0H : Laws.RoundTrip.Statement .res0H := fun _ => rfl
theorem Laws.RoundTrip.res0L : Laws.RoundTrip.Statement .res0L := fun _ => rfl
theorem Laws.RoundTrip.res0AtHl : Laws.RoundTrip.Statement .res0AtHl := fun _ => rfl
theorem Laws.RoundTrip.res0A : Laws.RoundTrip.Statement .res0A := fun _ => rfl
theorem Laws.RoundTrip.res1B : Laws.RoundTrip.Statement .res1B := fun _ => rfl
theorem Laws.RoundTrip.res1C : Laws.RoundTrip.Statement .res1C := fun _ => rfl
theorem Laws.RoundTrip.res1D : Laws.RoundTrip.Statement .res1D := fun _ => rfl
theorem Laws.RoundTrip.res1E : Laws.RoundTrip.Statement .res1E := fun _ => rfl
theorem Laws.RoundTrip.res1H : Laws.RoundTrip.Statement .res1H := fun _ => rfl
theorem Laws.RoundTrip.res1L : Laws.RoundTrip.Statement .res1L := fun _ => rfl
theorem Laws.RoundTrip.res1AtHl : Laws.RoundTrip.Statement .res1AtHl := fun _ => rfl
theorem Laws.RoundTrip.res1A : Laws.RoundTrip.Statement .res1A := fun _ => rfl
theorem Laws.RoundTrip.res2B : Laws.RoundTrip.Statement .res2B := fun _ => rfl
theorem Laws.RoundTrip.res2C : Laws.RoundTrip.Statement .res2C := fun _ => rfl
theorem Laws.RoundTrip.res2D : Laws.RoundTrip.Statement .res2D := fun _ => rfl
theorem Laws.RoundTrip.res2E : Laws.RoundTrip.Statement .res2E := fun _ => rfl
theorem Laws.RoundTrip.res2H : Laws.RoundTrip.Statement .res2H := fun _ => rfl
theorem Laws.RoundTrip.res2L : Laws.RoundTrip.Statement .res2L := fun _ => rfl
theorem Laws.RoundTrip.res2AtHl : Laws.RoundTrip.Statement .res2AtHl := fun _ => rfl
theorem Laws.RoundTrip.res2A : Laws.RoundTrip.Statement .res2A := fun _ => rfl
theorem Laws.RoundTrip.res3B : Laws.RoundTrip.Statement .res3B := fun _ => rfl
theorem Laws.RoundTrip.res3C : Laws.RoundTrip.Statement .res3C := fun _ => rfl
theorem Laws.RoundTrip.res3D : Laws.RoundTrip.Statement .res3D := fun _ => rfl
theorem Laws.RoundTrip.res3E : Laws.RoundTrip.Statement .res3E := fun _ => rfl
theorem Laws.RoundTrip.res3H : Laws.RoundTrip.Statement .res3H := fun _ => rfl
theorem Laws.RoundTrip.res3L : Laws.RoundTrip.Statement .res3L := fun _ => rfl
theorem Laws.RoundTrip.res3AtHl : Laws.RoundTrip.Statement .res3AtHl := fun _ => rfl
theorem Laws.RoundTrip.res3A : Laws.RoundTrip.Statement .res3A := fun _ => rfl
theorem Laws.RoundTrip.res4B : Laws.RoundTrip.Statement .res4B := fun _ => rfl
theorem Laws.RoundTrip.res4C : Laws.RoundTrip.Statement .res4C := fun _ => rfl
theorem Laws.RoundTrip.res4D : Laws.RoundTrip.Statement .res4D := fun _ => rfl
theorem Laws.RoundTrip.res4E : Laws.RoundTrip.Statement .res4E := fun _ => rfl
theorem Laws.RoundTrip.res4H : Laws.RoundTrip.Statement .res4H := fun _ => rfl
theorem Laws.RoundTrip.res4L : Laws.RoundTrip.Statement .res4L := fun _ => rfl
theorem Laws.RoundTrip.res4AtHl : Laws.RoundTrip.Statement .res4AtHl := fun _ => rfl
theorem Laws.RoundTrip.res4A : Laws.RoundTrip.Statement .res4A := fun _ => rfl
theorem Laws.RoundTrip.res5B : Laws.RoundTrip.Statement .res5B := fun _ => rfl
theorem Laws.RoundTrip.res5C : Laws.RoundTrip.Statement .res5C := fun _ => rfl
theorem Laws.RoundTrip.res5D : Laws.RoundTrip.Statement .res5D := fun _ => rfl
theorem Laws.RoundTrip.res5E : Laws.RoundTrip.Statement .res5E := fun _ => rfl
theorem Laws.RoundTrip.res5H : Laws.RoundTrip.Statement .res5H := fun _ => rfl
theorem Laws.RoundTrip.res5L : Laws.RoundTrip.Statement .res5L := fun _ => rfl
theorem Laws.RoundTrip.res5AtHl : Laws.RoundTrip.Statement .res5AtHl := fun _ => rfl
theorem Laws.RoundTrip.res5A : Laws.RoundTrip.Statement .res5A := fun _ => rfl
theorem Laws.RoundTrip.res6B : Laws.RoundTrip.Statement .res6B := fun _ => rfl
theorem Laws.RoundTrip.res6C : Laws.RoundTrip.Statement .res6C := fun _ => rfl
theorem Laws.RoundTrip.res6D : Laws.RoundTrip.Statement .res6D := fun _ => rfl
theorem Laws.RoundTrip.res6E : Laws.RoundTrip.Statement .res6E := fun _ => rfl
theorem Laws.RoundTrip.res6H : Laws.RoundTrip.Statement .res6H := fun _ => rfl
theorem Laws.RoundTrip.res6L : Laws.RoundTrip.Statement .res6L := fun _ => rfl
theorem Laws.RoundTrip.res6AtHl : Laws.RoundTrip.Statement .res6AtHl := fun _ => rfl
theorem Laws.RoundTrip.res6A : Laws.RoundTrip.Statement .res6A := fun _ => rfl
theorem Laws.RoundTrip.res7B : Laws.RoundTrip.Statement .res7B := fun _ => rfl
theorem Laws.RoundTrip.res7C : Laws.RoundTrip.Statement .res7C := fun _ => rfl
theorem Laws.RoundTrip.res7D : Laws.RoundTrip.Statement .res7D := fun _ => rfl
theorem Laws.RoundTrip.res7E : Laws.RoundTrip.Statement .res7E := fun _ => rfl
theorem Laws.RoundTrip.res7H : Laws.RoundTrip.Statement .res7H := fun _ => rfl
theorem Laws.RoundTrip.res7L : Laws.RoundTrip.Statement .res7L := fun _ => rfl
theorem Laws.RoundTrip.res7AtHl : Laws.RoundTrip.Statement .res7AtHl := fun _ => rfl
theorem Laws.RoundTrip.res7A : Laws.RoundTrip.Statement .res7A := fun _ => rfl
theorem Laws.RoundTrip.set0B : Laws.RoundTrip.Statement .set0B := fun _ => rfl
theorem Laws.RoundTrip.set0C : Laws.RoundTrip.Statement .set0C := fun _ => rfl
theorem Laws.RoundTrip.set0D : Laws.RoundTrip.Statement .set0D := fun _ => rfl
theorem Laws.RoundTrip.set0E : Laws.RoundTrip.Statement .set0E := fun _ => rfl
theorem Laws.RoundTrip.set0H : Laws.RoundTrip.Statement .set0H := fun _ => rfl
theorem Laws.RoundTrip.set0L : Laws.RoundTrip.Statement .set0L := fun _ => rfl
theorem Laws.RoundTrip.set0AtHl : Laws.RoundTrip.Statement .set0AtHl := fun _ => rfl
theorem Laws.RoundTrip.set0A : Laws.RoundTrip.Statement .set0A := fun _ => rfl
theorem Laws.RoundTrip.set1B : Laws.RoundTrip.Statement .set1B := fun _ => rfl
theorem Laws.RoundTrip.set1C : Laws.RoundTrip.Statement .set1C := fun _ => rfl
theorem Laws.RoundTrip.set1D : Laws.RoundTrip.Statement .set1D := fun _ => rfl
theorem Laws.RoundTrip.set1E : Laws.RoundTrip.Statement .set1E := fun _ => rfl
theorem Laws.RoundTrip.set1H : Laws.RoundTrip.Statement .set1H := fun _ => rfl
theorem Laws.RoundTrip.set1L : Laws.RoundTrip.Statement .set1L := fun _ => rfl
theorem Laws.RoundTrip.set1AtHl : Laws.RoundTrip.Statement .set1AtHl := fun _ => rfl
theorem Laws.RoundTrip.set1A : Laws.RoundTrip.Statement .set1A := fun _ => rfl
theorem Laws.RoundTrip.set2B : Laws.RoundTrip.Statement .set2B := fun _ => rfl
theorem Laws.RoundTrip.set2C : Laws.RoundTrip.Statement .set2C := fun _ => rfl
theorem Laws.RoundTrip.set2D : Laws.RoundTrip.Statement .set2D := fun _ => rfl
theorem Laws.RoundTrip.set2E : Laws.RoundTrip.Statement .set2E := fun _ => rfl
theorem Laws.RoundTrip.set2H : Laws.RoundTrip.Statement .set2H := fun _ => rfl
theorem Laws.RoundTrip.set2L : Laws.RoundTrip.Statement .set2L := fun _ => rfl
theorem Laws.RoundTrip.set2AtHl : Laws.RoundTrip.Statement .set2AtHl := fun _ => rfl
theorem Laws.RoundTrip.set2A : Laws.RoundTrip.Statement .set2A := fun _ => rfl
theorem Laws.RoundTrip.set3B : Laws.RoundTrip.Statement .set3B := fun _ => rfl
theorem Laws.RoundTrip.set3C : Laws.RoundTrip.Statement .set3C := fun _ => rfl
theorem Laws.RoundTrip.set3D : Laws.RoundTrip.Statement .set3D := fun _ => rfl
theorem Laws.RoundTrip.set3E : Laws.RoundTrip.Statement .set3E := fun _ => rfl
theorem Laws.RoundTrip.set3H : Laws.RoundTrip.Statement .set3H := fun _ => rfl
theorem Laws.RoundTrip.set3L : Laws.RoundTrip.Statement .set3L := fun _ => rfl
theorem Laws.RoundTrip.set3AtHl : Laws.RoundTrip.Statement .set3AtHl := fun _ => rfl
theorem Laws.RoundTrip.set3A : Laws.RoundTrip.Statement .set3A := fun _ => rfl
theorem Laws.RoundTrip.set4B : Laws.RoundTrip.Statement .set4B := fun _ => rfl
theorem Laws.RoundTrip.set4C : Laws.RoundTrip.Statement .set4C := fun _ => rfl
theorem Laws.RoundTrip.set4D : Laws.RoundTrip.Statement .set4D := fun _ => rfl
theorem Laws.RoundTrip.set4E : Laws.RoundTrip.Statement .set4E := fun _ => rfl
theorem Laws.RoundTrip.set4H : Laws.RoundTrip.Statement .set4H := fun _ => rfl
theorem Laws.RoundTrip.set4L : Laws.RoundTrip.Statement .set4L := fun _ => rfl
theorem Laws.RoundTrip.set4AtHl : Laws.RoundTrip.Statement .set4AtHl := fun _ => rfl
theorem Laws.RoundTrip.set4A : Laws.RoundTrip.Statement .set4A := fun _ => rfl
theorem Laws.RoundTrip.set5B : Laws.RoundTrip.Statement .set5B := fun _ => rfl
theorem Laws.RoundTrip.set5C : Laws.RoundTrip.Statement .set5C := fun _ => rfl
theorem Laws.RoundTrip.set5D : Laws.RoundTrip.Statement .set5D := fun _ => rfl
theorem Laws.RoundTrip.set5E : Laws.RoundTrip.Statement .set5E := fun _ => rfl
theorem Laws.RoundTrip.set5H : Laws.RoundTrip.Statement .set5H := fun _ => rfl
theorem Laws.RoundTrip.set5L : Laws.RoundTrip.Statement .set5L := fun _ => rfl
theorem Laws.RoundTrip.set5AtHl : Laws.RoundTrip.Statement .set5AtHl := fun _ => rfl
theorem Laws.RoundTrip.set5A : Laws.RoundTrip.Statement .set5A := fun _ => rfl
theorem Laws.RoundTrip.set6B : Laws.RoundTrip.Statement .set6B := fun _ => rfl
theorem Laws.RoundTrip.set6C : Laws.RoundTrip.Statement .set6C := fun _ => rfl
theorem Laws.RoundTrip.set6D : Laws.RoundTrip.Statement .set6D := fun _ => rfl
theorem Laws.RoundTrip.set6E : Laws.RoundTrip.Statement .set6E := fun _ => rfl
theorem Laws.RoundTrip.set6H : Laws.RoundTrip.Statement .set6H := fun _ => rfl
theorem Laws.RoundTrip.set6L : Laws.RoundTrip.Statement .set6L := fun _ => rfl
theorem Laws.RoundTrip.set6AtHl : Laws.RoundTrip.Statement .set6AtHl := fun _ => rfl
theorem Laws.RoundTrip.set6A : Laws.RoundTrip.Statement .set6A := fun _ => rfl
theorem Laws.RoundTrip.set7B : Laws.RoundTrip.Statement .set7B := fun _ => rfl
theorem Laws.RoundTrip.set7C : Laws.RoundTrip.Statement .set7C := fun _ => rfl
theorem Laws.RoundTrip.set7D : Laws.RoundTrip.Statement .set7D := fun _ => rfl
theorem Laws.RoundTrip.set7E : Laws.RoundTrip.Statement .set7E := fun _ => rfl
theorem Laws.RoundTrip.set7H : Laws.RoundTrip.Statement .set7H := fun _ => rfl
theorem Laws.RoundTrip.set7L : Laws.RoundTrip.Statement .set7L := fun _ => rfl
theorem Laws.RoundTrip.set7AtHl : Laws.RoundTrip.Statement .set7AtHl := fun _ => rfl
theorem Laws.RoundTrip.set7A : Laws.RoundTrip.Statement .set7A := fun _ => rfl

end Sys2Proof
end

