-- ==== Sys2Proof/Laws/Registers.lean ====
section
/-! SUPPORT. What each register and flag operation can do (40_register_access.md, 41_flags_access.md). -/

namespace Sys2Proof.Machine

@[simp] theorem RegFile.set16_running (r : RegFile) (p : Pair) (v : Word) : (r.set16 p v).running = r.running := by
  cases p <;> rfl

@[simp] theorem RegFile.setHigh_running (r : RegFile) (p : Pair) (v : Byte) :
    (r.setHigh p v).running = r.running := RegFile.store_running _ _ _

@[simp] theorem RegFile.setLow_running (r : RegFile) (p : Pair) (v : Byte) :
    (r.setLow p v).running = r.running := RegFile.store_running _ _ _

@[simp] theorem RegFile.setFlag_running (r : RegFile) (f : Flag) (v : Bool) :
    (r.setFlag f v).running = r.running := RegFile.store_running _ _ _

/-- A write of one pair leaves every other pair (R22). -/
theorem RegFile.get16_set16_other (r : RegFile) (p q : Pair) (v : Word) (h : q ≠ p) :
    (r.set16 p v).get16 q = r.get16 q := by
  cases p <;> exact RegFile.get16_store_other _ _ _ _ h

theorem RegFile.get16_setHigh_other (r : RegFile) (p q : Pair) (v : Byte) (h : q ≠ p) :
    (r.setHigh p v).get16 q = r.get16 q := RegFile.get16_store_other _ _ _ _ h

theorem RegFile.get16_setLow_other (r : RegFile) (p q : Pair) (v : Byte) (h : q ≠ p) :
    (r.setLow p v).get16 q = r.get16 q := RegFile.get16_store_other _ _ _ _ h

theorem RegFile.get16_setFlag_other (r : RegFile) (f : Flag) (q : Pair) (v : Bool) (h : q ≠ .af) :
    (r.setFlag f v).get16 q = r.get16 q := RegFile.get16_store_other _ _ _ _ h

@[simp] theorem RegFile.getHigh_setHigh (r : RegFile) (p : Pair) (v : Byte) : (r.setHigh p v).getHigh p = v := by
  simp [RegFile.getHigh, RegFile.setHigh]

@[simp] theorem RegFile.getLow_setHigh (r : RegFile) (p : Pair) (v : Byte) :
    (r.setHigh p v).getLow p = r.getLow p := by
  simp [RegFile.getLow, RegFile.setHigh]

@[simp] theorem RegFile.getLow_setLow (r : RegFile) (p : Pair) (v : Byte) :
    (r.setLow p v).getLow p = lowStored p v := by
  simp [RegFile.getLow, RegFile.setLow]

@[simp] theorem RegFile.getHigh_setLow (r : RegFile) (p : Pair) (v : Byte) :
    (r.setLow p v).getHigh p = r.getHigh p := by
  simp [RegFile.getHigh, RegFile.setLow]

/-! ## The zero nibble of F -/

/-- F has a zero low nibble exactly when AF has. -/
theorem lowNibble_iff (v : Word) : v &&& 0x000F = 0 ↔ lowByte v &&& 0x0F = 0 := by
  have h (n : Nat) : n &&& 15 = n % 16 := Nat.and_two_pow_sub_one_eq_mod n 4
  have hw : (v &&& 0x000F).toNat = v.toNat % 16 := (BitVec.toNat_and ..).trans (h _)
  have hb : (lowByte v &&& 0x0F).toNat = (lowByte v).toNat % 16 := (BitVec.toNat_and ..).trans (h _)
  rw [lowByte_toNat] at hb
  have e (w : Nat) (x : BitVec w) : x = 0 ↔ x.toNat = 0 := by
    rw [← BitVec.toNat_inj]
    simp
  rw [e, e, hw, hb]
  omega

theorem RegFile.set16_lowNibble (r : RegFile) (p : Pair) (v : Word) (h : r.af &&& 0x000F = 0) :
    (r.set16 p v).af &&& 0x000F = 0 := by
  cases p <;> first
    | exact h
    | (show (v &&& 0xFFF0) &&& 0x000F = 0
       rw [BitVec.and_assoc]
       simp)

theorem RegFile.setHigh_lowNibble (r : RegFile) (p : Pair) (v : Byte) (h : r.af &&& 0x000F = 0) :
    (r.setHigh p v).af &&& 0x000F = 0 := by
  cases p <;> first
    | exact h
    | (rw [lowNibble_iff] at h ⊢
       simpa [RegFile.setHigh, RegFile.store] using h)

theorem RegFile.setLow_lowNibble (r : RegFile) (p : Pair) (v : Byte) (h : r.af &&& 0x000F = 0) :
    (r.setLow p v).af &&& 0x000F = 0 := by
  cases p <;> first
    | exact h
    | (rw [lowNibble_iff]
       simp only [RegFile.setLow, RegFile.store, lowByte_joinBytes, lowStored]
       rw [BitVec.and_assoc]
       simp)

theorem RegFile.setFlag_lowNibble (r : RegFile) (f : Flag) (v : Bool) (h : r.af &&& 0x000F = 0) :
    (r.setFlag f v).af &&& 0x000F = 0 := by
  rw [lowNibble_iff] at h ⊢
  simp only [RegFile.setFlag, RegFile.store, lowByte_joinBytes]
  generalize lowByte r.af = x at h ⊢
  revert x
  cases f <;> cases v <;> decide

theorem RegFile.reset_lowNibble (bc : Word) : (RegFile.reset bc).af &&& 0x000F = 0 := by
  show (0x1100 : Word) &&& 0x000F = 0
  decide

/-! ## Flags -/

/-- A flag read from AF is the same bit of F (R120). -/
theorem RegFile.getFlag_lowByte (r : RegFile) (f : Flag) : r.getFlag f = (lowByte r.af).getLsbD f.pos := by
  have h : (lowByte r.af).getLsbD f.pos = (decide (f.pos < 8) && r.af.getLsbD f.pos) := by
    rw [show lowByte r.af = r.af.setWidth 8 from BitVec.eq_of_toNat_eq (by simp [lowByte])]
    exact BitVec.getLsbD_setWidth ..
  rw [h]
  cases f <;> rfl

@[simp] theorem RegFile.getFlag_setFlag_same (r : RegFile) (f : Flag) (v : Bool) :
    (r.setFlag f v).getFlag f = v := by
  rw [RegFile.getFlag_lowByte]
  simp only [RegFile.setFlag, RegFile.store, lowByte_joinBytes]
  generalize lowByte r.af = x
  revert x
  cases f <;> cases v <;> decide

theorem RegFile.getFlag_setFlag_other (r : RegFile) (f g : Flag) (v : Bool) (h : g ≠ f) :
    (r.setFlag f v).getFlag g = r.getFlag g := by
  rw [RegFile.getFlag_lowByte, RegFile.getFlag_lowByte]
  simp only [RegFile.setFlag, RegFile.store, lowByte_joinBytes]
  generalize lowByte r.af = x
  revert x
  cases f <;> cases g <;> first
    | exact absurd rfl h
    | (cases v <;> decide)

/-- The flag field is bits 7, 6, 5 and 4 of AF, one character each. -/
theorem flagSummary_eq (r : RegFile) :
    flagSummary r = String.ofList ([7, 6, 5, 4].map (fun k => if r.af.getLsbD k then '1' else '0')) := by
  simp only [flagSummary, RegFile.getFlag, Flag.pos, List.map]
  cases r.af.getLsbD 7 <;> cases r.af.getLsbD 6 <;> cases r.af.getLsbD 5 <;> cases r.af.getLsbD 4 <;> rfl

end Sys2Proof.Machine
end

