-- ==== Sys2Proof/Laws/Trace.lean ====
section
/-! SUPPORT. What each part of a trace call can do (47_trace_emitter.md): everything but the reads, the dictated
answers, the fields and the emitted line stays. -/

namespace Sys2Proof.Machine

/-- `t` differs from `s` at most in the reads made, the answers used up and the fields gathered: what the reading
part of a trace call can do (R313). -/
structure OnlyReads (s t : State) : Prop where
  regs     : t.regs = s.regs
  params   : t.params = s.params
  mem      : t.mem = s.mem
  requests : t.requests = s.requests
  sink     : t.sink = s.sink
  reports  : t.reports = s.reports
  ret      : t.ret = s.ret

theorem OnlyReads.refl (s : State) : OnlyReads s s := ⟨rfl, rfl, rfl, rfl, rfl, rfl, rfl⟩

theorem OnlyReads.trans {s t u : State} (h : OnlyReads s t) (k : OnlyReads t u) : OnlyReads s u :=
  ⟨k.regs.trans h.regs, k.params.trans h.params, k.mem.trans h.mem, k.requests.trans h.requests,
    k.sink.trans h.sink, k.reports.trans h.reports, k.ret.trans h.ret⟩

theorem OnlyReads.afterRead (s : State) (a : Word) : OnlyReads s (s.afterRead a) := ⟨rfl, rfl, rfl, rfl, rfl, rfl, rfl⟩

theorem OnlyReads.addField (s : State) (f : String) : OnlyReads s (s.addField f) := ⟨rfl, rfl, rfl, rfl, rfl, rfl, rfl⟩

theorem OnlyReads.beginFields (s : State) : OnlyReads s s.beginFields := ⟨rfl, rfl, rfl, rfl, rfl, rfl, rfl⟩

theorem OnlyReads.addSnapshot (s : State) (a : Word) : OnlyReads s (s.addSnapshot a) :=
  ⟨rfl, rfl, rfl, rfl, rfl, rfl, rfl⟩

theorem OnlyReads.foldl_addSnapshot (l : List Word) (s : State) : OnlyReads s (l.foldl State.addSnapshot s) := by
  induction l generalizing s with
  | nil => exact .refl s
  | cons a l ih => exact (OnlyReads.addSnapshot s a).trans (ih _)

/-- Gathering the fields only reads. -/
theorem gatherFields_onlyReads (o : TraceOptions) (cycles : Cycles) (s : State) :
    OnlyReads s (gatherFields o cycles s) := by
  have h1 (s : State) : OnlyReads s (addressField o s) := by
    unfold addressField; split <;> first | exact .addField _ _ | exact .refl _
  have h2 (s : State) : OnlyReads s (flagsField o s) := by
    unfold flagsField; split <;> first | exact .addField _ _ | exact .refl _
  have h3 (s : State) : OnlyReads s (cyclesField o cycles s) := by
    unfold cyclesField; split <;> first | exact .addField _ _ | exact .refl _
  have h4 (s : State) : OnlyReads s (joypadField o s) := by
    unfold joypadField; split <;> first | exact .addSnapshot _ _ | exact .refl _
  have h5 (s : State) : OnlyReads s (timerFields o s) := by
    unfold timerFields; split <;> first | exact .foldl_addSnapshot _ _ | exact .refl _
  exact (OnlyReads.beginFields s).trans ((h1 _).trans ((h2 _).trans ((h3 _).trans ((h4 _).trans (h5 _)))))

/-- With every toggle off there is no field and no read. -/
@[simp] theorem gatherFields_off (cycles : Cycles) (s : State) : gatherFields .off cycles s = s.beginFields := rfl

theorem readOperandOf_onlyReads (e : Entry) (s : State) : OnlyReads s (readOperandOf e s).2 := by
  cases e <;> exact ⟨rfl, rfl, rfl, rfl, rfl, rfl, rfl⟩

@[simp] theorem readOperandOf_fields (e : Entry) (s : State) : (readOperandOf e s).2.fields = s.fields := by
  cases e <;> rfl

/-- After the escape byte, the byte at PC+1 selects in the secondary table (R303). -/
theorem fetchInstr_escape (s : State) (h : s.busAnswer s.regs.pc = 0xCB) :
    fetchInstr s =
      (secondaryInstr ((s.afterRead s.regs.pc).busAnswer (s.regs.pc + 1)),
        (s.afterRead s.regs.pc).afterRead (s.regs.pc + 1)) := if_pos h

/-- After any other byte, the operand of its entry's shape follows (R302). -/
theorem fetchInstr_primary (s : State) (h : s.busAnswer s.regs.pc ≠ 0xCB) :
    fetchInstr s = readOperandOf (primaryEntry (s.busAnswer s.regs.pc)) (s.afterRead s.regs.pc) := if_neg h

/-- Reading the instruction at PC only reads. -/
theorem fetchInstr_onlyReads (s : State) : OnlyReads s (fetchInstr s).2 := by
  by_cases h : s.busAnswer s.regs.pc = 0xCB
  · rw [fetchInstr_escape s h]
    exact (OnlyReads.afterRead _ _).trans (.afterRead _ _)
  · rw [fetchInstr_primary s h]
    exact (OnlyReads.afterRead _ _).trans (readOperandOf_onlyReads _ _)

@[simp] theorem fetchInstr_fields (s : State) : (fetchInstr s).2.fields = s.fields := by
  by_cases h : s.busAnswer s.regs.pc = 0xCB
  · rw [fetchInstr_escape s h]
    rfl
  · rw [fetchInstr_primary s h]
    exact readOperandOf_fields _ _

/-! ### What was read, as a list of addresses -/

@[simp] theorem afterReads_nil (s : State) : afterReads s [] = s := by simp [afterReads]

theorem afterReads_append (s : State) (l m : List Word) : afterReads (afterReads s l) m = afterReads s (l ++ m) := by
  simp [afterReads]

theorem afterRead_eq (s : State) (a : Word) : s.afterRead a = afterReads s [a] := by
  simp [State.afterRead, afterReads]

/-- Reading the instruction at PC makes its reads and does nothing else; the opcode byte tells how many (R314). -/
theorem fetchInstr_snd (s : State) :
    (fetchInstr s).2 = afterReads s (addressesFrom s.regs.pc (instrLength (s.busAnswer s.regs.pc))) := by
  unfold instrLength
  by_cases h : s.busAnswer s.regs.pc = 0xCB
  · rw [fetchInstr_escape s h, if_pos h]
    simp only [afterRead_eq, afterReads_append]
    rfl
  · rw [fetchInstr_primary s h, if_neg h]
    generalize primaryEntry (s.busAnswer s.regs.pc) = e
    cases e <;>
      simp only [readOperandOf, readImmediate8_eq, readImmediate16_eq, readAddress16_eq, readSignedRelative8_eq,
        afterRead_eq, afterReads_append] <;> rfl

/-- The instruction read at PC is the one that the bytes answered there decode to. -/
theorem fetchInstr_fst (s : State) (b0 b1 b2 : Byte) (i : Instr) (tail : List Byte)
    (h0 : s.busAnswer s.regs.pc = b0) (h1 : (afterReads s [s.regs.pc]).busAnswer (s.regs.pc + 1) = b1)
    (h2 : (afterReads s [s.regs.pc, s.regs.pc + 1]).busAnswer (s.regs.pc + 2) = b2)
    (hd : decode [b0, b1, b2] = .ok (i, tail)) : (fetchInstr s).1 = i := by
  simp only [decode] at hd
  by_cases h : b0 = 0xCB
  · rw [fetchInstr_escape s (h0.trans h), afterRead_eq, h1]
    rw [if_pos h] at hd
    simp at hd
    exact hd.1
  · rw [fetchInstr_primary s (h0 ▸ h), h0]
    rw [if_neg h] at hd
    generalize primaryEntry b0 = e at *
    cases e <;> simp at hd <;> obtain ⟨rfl, rfl⟩ := hd <;>
      simp only [readOperandOf, readImmediate8_eq, readImmediate16_eq, readAddress16_eq, readSignedRelative8_eq,
        afterRead_eq, afterReads_append, List.cons_append, List.nil_append] <;>
      simp only [afterReads] at * <;> simp_all

/-- With no snapshot toggle on, gathering the fields reads nothing and changes the fields alone. -/
theorem gatherFields_noSnapshots (a f c : Bool) (cycles : Cycles) (s : State) :
    ∃ fs, gatherFields ⟨a, f, c, false, false⟩ cycles s = { s with fields := fs } := by
  cases a <;> cases f <;> cases c <;> exact ⟨_, rfl⟩

/-- Reading snapshots makes their reads and adds fields. -/
theorem foldl_addSnapshot_eq (l : List Word) (s : State) :
    ∃ fs, l.foldl State.addSnapshot s = { afterReads s l with fields := fs } := by
  induction l generalizing s with
  | nil => exact ⟨s.fields, by simp⟩
  | cons a l ih =>
    obtain ⟨fs, h⟩ := ih (s.addSnapshot a)
    exact ⟨fs, by rw [List.foldl_cons, h]; simp [afterReads, State.addSnapshot, State.addField, State.afterRead]⟩

/-- The shared operation of the meanings always answers a next state, and says which. -/
theorem finishTrace_eq (t : Template) (o : Operand) (s : State) :
    finishTrace t o s = .next (s.emitLine (traceLine s (traceBody t o))) := rfl

theorem tracePrimary_eq (b : Byte) (o : Operand) (s : State) :
    tracePrimary b o s = .next (s.emitLine (traceLine s (traceBody (decodePrimary b) o))) := rfl

theorem traceSecondary_eq (b : Byte) (s : State) :
    traceSecondary b s = .next (s.emitLine (traceLine s (traceBody (decodeSecondary b) .none))) := rfl

@[simp] theorem traceLine_noFields (s : State) (body : String) (h : s.fields = []) :
    traceLine s body = body ++ "\n" := by
  simp [traceLine, diagnosticPart, h]

/-- A trace call is the meaning of the instruction at PC, after the fields and the fetch. -/
theorem opFormatLine_eq (o : TraceOptions) (cycles : Cycles) (s : State) :
    opFormatLine o cycles s =
      exec (fetchInstr (gatherFields o cycles s)).1 (fetchInstr (gatherFields o cycles s)).2 := rfl

/-- A step serves the oldest request. -/
theorem step_of_request (s : State) (r : Request) (rest : List Request) :
    step { s with requests := r :: rest } = serve r { s with requests := rest } := rfl

end Sys2Proof.Machine
end

