-- ==== Sys2Proof/Tests/Slice0.lean ====
section
/-! SUPPORT. The model's own tests. Expected results come from the spec: the words are written out from the
encodings of its opcode table and its entry rules, the vectors S1 to V151 and the programs from
95_test_vectors.md. Then one witness for the hypotheses of each statement that has some. -/

open Sys2Proof Sys2Proof.Machine Sys2Proof.Claims

namespace Sys2Proof.Tests

/-! ## Well-formedness: an ill-formed term for each check, and the boundary values -/

theorem test_wf_jrR8 : (Instr.jrR8 128).wellFormed = false ∧ (Instr.jrR8 (-129)).wellFormed = false ∧
    (Instr.jrR8 (-128)).wellFormed = true ∧ (Instr.jrR8 127).wellFormed = true := by decide

theorem test_wf_jrNzR8 : (Instr.jrNzR8 128).wellFormed = false ∧ (Instr.jrNzR8 (-129)).wellFormed = false ∧
    (Instr.jrNzR8 (-128)).wellFormed = true ∧ (Instr.jrNzR8 127).wellFormed = true := by decide

theorem test_wf_jrZR8 : (Instr.jrZR8 128).wellFormed = false ∧ (Instr.jrZR8 (-129)).wellFormed = false ∧
    (Instr.jrZR8 (-128)).wellFormed = true ∧ (Instr.jrZR8 127).wellFormed = true := by decide

theorem test_wf_jrNcR8 : (Instr.jrNcR8 128).wellFormed = false ∧ (Instr.jrNcR8 (-129)).wellFormed = false ∧
    (Instr.jrNcR8 (-128)).wellFormed = true ∧ (Instr.jrNcR8 127).wellFormed = true := by decide

theorem test_wf_jrCR8 : (Instr.jrCR8 128).wellFormed = false ∧ (Instr.jrCR8 (-129)).wellFormed = false ∧
    (Instr.jrCR8 (-128)).wellFormed = true ∧ (Instr.jrCR8 127).wellFormed = true := by decide

theorem test_wf_addSpR8 : (Instr.addSpR8 128).wellFormed = false ∧ (Instr.addSpR8 (-129)).wellFormed = false ∧
    (Instr.addSpR8 (-128)).wellFormed = true ∧ (Instr.addSpR8 127).wellFormed = true := by decide

theorem test_wf_ldHlSpPlusR8 : (Instr.ldHlSpPlusR8 128).wellFormed = false ∧ (Instr.ldHlSpPlusR8 (-129)).wellFormed = false ∧
    (Instr.ldHlSpPlusR8 (-128)).wellFormed = true ∧ (Instr.ldHlSpPlusR8 127).wellFormed = true := by decide

/-! ## Decoding: every constructor's word, bit by bit from the table's encoding

The operand bytes are 0x42 for `iiiiiiii`, 0x34 then 0x12 for `llllllll` `hhhhhhhh`, 0xFE for `rrrrrrrr`. -/

/-- Every word decodes to exactly its instruction, with no byte left. -/
def decodesTo (rows : List (List Byte × Instr)) : Bool :=
  rows.all (fun p => decide (decode p.1 = .ok (p.2, [])))

theorem test_decode_primary_00_0F : decodesTo
    [([0b00000000], .nop), ([0b00000001, 0b00110100, 0b00010010], .ldBcD16 0x1234), ([0b00000010], .ldAtBcA),
     ([0b00000011], .incBc), ([0b00000100], .incB), ([0b00000101], .decB),
     ([0b00000110, 0b01000010], .ldBD8 0x42), ([0b00000111], .rlca),
     ([0b00001000, 0b00110100, 0b00010010], .ldAtA16Sp 0x1234), ([0b00001001], .addHlBc),
     ([0b00001010], .ldAAtBc), ([0b00001011], .decBc), ([0b00001100], .incC), ([0b00001101], .decC),
     ([0b00001110, 0b01000010], .ldCD8 0x42), ([0b00001111], .rrca)] = true := by decide

theorem test_decode_primary_10_1F : decodesTo
    [([0b00010000], .stop0), ([0b00010001, 0b00110100, 0b00010010], .ldDeD16 0x1234), ([0b00010010], .ldAtDeA),
     ([0b00010011], .incDe), ([0b00010100], .incD), ([0b00010101], .decD),
     ([0b00010110, 0b01000010], .ldDD8 0x42), ([0b00010111], .rla), ([0b00011000, 0b11111110], .jrR8 (-2)),
     ([0b00011001], .addHlDe), ([0b00011010], .ldAAtDe), ([0b00011011], .decDe), ([0b00011100], .incE),
     ([0b00011101], .decE), ([0b00011110, 0b01000010], .ldED8 0x42), ([0b00011111], .rra)] = true := by decide

theorem test_decode_primary_20_2F : decodesTo
    [([0b00100000, 0b11111110], .jrNzR8 (-2)), ([0b00100001, 0b00110100, 0b00010010], .ldHlD16 0x1234),
     ([0b00100010], .ldAtHlIncA), ([0b00100011], .incHl), ([0b00100100], .incH), ([0b00100101], .decH),
     ([0b00100110, 0b01000010], .ldHD8 0x42), ([0b00100111], .daa), ([0b00101000, 0b11111110], .jrZR8 (-2)),
     ([0b00101001], .addHlHl), ([0b00101010], .ldAAtHlInc), ([0b00101011], .decHl), ([0b00101100], .incL),
     ([0b00101101], .decL), ([0b00101110, 0b01000010], .ldLD8 0x42), ([0b00101111], .cpl)] = true := by decide

theorem test_decode_primary_30_3F : decodesTo
    [([0b00110000, 0b11111110], .jrNcR8 (-2)), ([0b00110001, 0b00110100, 0b00010010], .ldSpD16 0x1234),
     ([0b00110010], .ldAtHlDecA), ([0b00110011], .incSp), ([0b00110100], .incAtHl), ([0b00110101], .decAtHl),
     ([0b00110110, 0b01000010], .ldAtHlD8 0x42), ([0b00110111], .scf), ([0b00111000, 0b11111110], .jrCR8 (-2)),
     ([0b00111001], .addHlSp), ([0b00111010], .ldAAtHlDec), ([0b00111011], .decSp), ([0b00111100], .incA),
     ([0b00111101], .decA), ([0b00111110, 0b01000010], .ldAD8 0x42), ([0b00111111], .ccf)] = true := by decide

theorem test_decode_primary_40_4F : decodesTo
    [([0b01000000], .ldBB), ([0b01000001], .ldBC), ([0b01000010], .ldBD), ([0b01000011], .ldBE),
     ([0b01000100], .ldBH), ([0b01000101], .ldBL), ([0b01000110], .ldBAtHl), ([0b01000111], .ldBA),
     ([0b01001000], .ldCB), ([0b01001001], .ldCC), ([0b01001010], .ldCD), ([0b01001011], .ldCE),
     ([0b01001100], .ldCH), ([0b01001101], .ldCL), ([0b01001110], .ldCAtHl),
     ([0b01001111], .ldCA)] = true := by decide

theorem test_decode_primary_50_5F : decodesTo
    [([0b01010000], .ldDB), ([0b01010001], .ldDC), ([0b01010010], .ldDD), ([0b01010011], .ldDE),
     ([0b01010100], .ldDH), ([0b01010101], .ldDL), ([0b01010110], .ldDAtHl), ([0b01010111], .ldDA),
     ([0b01011000], .ldEB), ([0b01011001], .ldEC), ([0b01011010], .ldED), ([0b01011011], .ldEE),
     ([0b01011100], .ldEH), ([0b01011101], .ldEL), ([0b01011110], .ldEAtHl),
     ([0b01011111], .ldEA)] = true := by decide

theorem test_decode_primary_60_6F : decodesTo
    [([0b01100000], .ldHB), ([0b01100001], .ldHC), ([0b01100010], .ldHD), ([0b01100011], .ldHE),
     ([0b01100100], .ldHH), ([0b01100101], .ldHL), ([0b01100110], .ldHAtHl), ([0b01100111], .ldHA),
     ([0b01101000], .ldLB), ([0b01101001], .ldLC), ([0b01101010], .ldLD), ([0b01101011], .ldLE),
     ([0b01101100], .ldLH), ([0b01101101], .ldLL), ([0b01101110], .ldLAtHl),
     ([0b01101111], .ldLA)] = true := by decide

theorem test_decode_primary_70_7F : decodesTo
    [([0b01110000], .ldAtHlB), ([0b01110001], .ldAtHlC), ([0b01110010], .ldAtHlD), ([0b01110011], .ldAtHlE),
     ([0b01110100], .ldAtHlH), ([0b01110101], .ldAtHlL), ([0b01110110], .halt), ([0b01110111], .ldAtHlA),
     ([0b01111000], .ldAB), ([0b01111001], .ldAC), ([0b01111010], .ldAD), ([0b01111011], .ldAE),
     ([0b01111100], .ldAH), ([0b01111101], .ldAL), ([0b01111110], .ldAAtHl),
     ([0b01111111], .ldAA)] = true := by decide

theorem test_decode_primary_80_8F : decodesTo
    [([0b10000000], .addAB), ([0b10000001], .addAC), ([0b10000010], .addAD), ([0b10000011], .addAE),
     ([0b10000100], .addAH), ([0b10000101], .addAL), ([0b10000110], .addAAtHl), ([0b10000111], .addAA),
     ([0b10001000], .adcAB), ([0b10001001], .adcAC), ([0b10001010], .adcAD), ([0b10001011], .adcAE),
     ([0b10001100], .adcAH), ([0b10001101], .adcAL), ([0b10001110], .adcAAtHl),
     ([0b10001111], .adcAA)] = true := by decide

theorem test_decode_primary_90_9F : decodesTo
    [([0b10010000], .subB), ([0b10010001], .subC), ([0b10010010], .subD), ([0b10010011], .subE),
     ([0b10010100], .subH), ([0b10010101], .subL), ([0b10010110], .subAtHl), ([0b10010111], .subA),
     ([0b10011000], .sbcAB), ([0b10011001], .sbcAC), ([0b10011010], .sbcAD), ([0b10011011], .sbcAE),
     ([0b10011100], .sbcAH), ([0b10011101], .sbcAL), ([0b10011110], .sbcAAtHl),
     ([0b10011111], .sbcAA)] = true := by decide

theorem test_decode_primary_A0_AF : decodesTo
    [([0b10100000], .andB), ([0b10100001], .andC), ([0b10100010], .andD), ([0b10100011], .andE),
     ([0b10100100], .andH), ([0b10100101], .andL), ([0b10100110], .andAtHl), ([0b10100111], .andA),
     ([0b10101000], .xorB), ([0b10101001], .xorC), ([0b10101010], .xorD), ([0b10101011], .xorE),
     ([0b10101100], .xorH), ([0b10101101], .xorL), ([0b10101110], .xorAtHl),
     ([0b10101111], .xorA)] = true := by decide

theorem test_decode_primary_B0_BF : decodesTo
    [([0b10110000], .orB), ([0b10110001], .orC), ([0b10110010], .orD), ([0b10110011], .orE), ([0b10110100], .orH),
     ([0b10110101], .orL), ([0b10110110], .orAtHl), ([0b10110111], .orA), ([0b10111000], .cpB),
     ([0b10111001], .cpC), ([0b10111010], .cpD), ([0b10111011], .cpE), ([0b10111100], .cpH), ([0b10111101], .cpL),
     ([0b10111110], .cpAtHl), ([0b10111111], .cpA)] = true := by decide

theorem test_decode_primary_C0_CF : decodesTo
    [([0b11000000], .retNz), ([0b11000001], .popBc), ([0b11000010, 0b00110100, 0b00010010], .jpNzA16 0x1234),
     ([0b11000011, 0b00110100, 0b00010010], .jpA16 0x1234),
     ([0b11000100, 0b00110100, 0b00010010], .callNzA16 0x1234), ([0b11000101], .pushBc),
     ([0b11000110, 0b01000010], .addAD8 0x42), ([0b11000111], .rst00H), ([0b11001000], .retZ),
     ([0b11001001], .ret), ([0b11001010, 0b00110100, 0b00010010], .jpZA16 0x1234), ([0b11001011], .prefixCb),
     ([0b11001100, 0b00110100, 0b00010010], .callZA16 0x1234),
     ([0b11001101, 0b00110100, 0b00010010], .callA16 0x1234), ([0b11001110, 0b01000010], .adcAD8 0x42),
     ([0b11001111], .rst08H)] = true := by decide

theorem test_decode_primary_D0_DF : decodesTo
    [([0b11010000], .retNc), ([0b11010001], .popDe), ([0b11010010, 0b00110100, 0b00010010], .jpNcA16 0x1234),
     ([0b11010011], .undefD3), ([0b11010100, 0b00110100, 0b00010010], .callNcA16 0x1234), ([0b11010101], .pushDe),
     ([0b11010110, 0b01000010], .subD8 0x42), ([0b11010111], .rst10H), ([0b11011000], .retC),
     ([0b11011001], .reti), ([0b11011010, 0b00110100, 0b00010010], .jpCA16 0x1234), ([0b11011011], .undefDB),
     ([0b11011100, 0b00110100, 0b00010010], .callCA16 0x1234), ([0b11011101], .undefDD),
     ([0b11011110, 0b01000010], .sbcAD8 0x42), ([0b11011111], .rst18H)] = true := by decide

theorem test_decode_primary_E0_EF : decodesTo
    [([0b11100000, 0b01000010], .ldhAtA8A 0x42), ([0b11100001], .popHl), ([0b11100010], .ldAtCA),
     ([0b11100011], .undefE3), ([0b11100100], .undefE4), ([0b11100101], .pushHl),
     ([0b11100110, 0b01000010], .andD8 0x42), ([0b11100111], .rst20H), ([0b11101000, 0b11111110], .addSpR8 (-2)),
     ([0b11101001], .jpAtHl), ([0b11101010, 0b00110100, 0b00010010], .ldAtA16A 0x1234), ([0b11101011], .undefEB),
     ([0b11101100], .undefEC), ([0b11101101], .undefED), ([0b11101110, 0b01000010], .xorD8 0x42),
     ([0b11101111], .rst28H)] = true := by decide

theorem test_decode_primary_F0_FF : decodesTo
    [([0b11110000, 0b01000010], .ldhAAtA8 0x42), ([0b11110001], .popAf), ([0b11110010], .ldAAtC),
     ([0b11110011], .di), ([0b11110100], .undefF4), ([0b11110101], .pushAf),
     ([0b11110110, 0b01000010], .orD8 0x42), ([0b11110111], .rst30H),
     ([0b11111000, 0b11111110], .ldHlSpPlusR8 (-2)), ([0b11111001], .ldSpHl),
     ([0b11111010, 0b00110100, 0b00010010], .ldAAtA16 0x1234), ([0b11111011], .ei), ([0b11111100], .undefFC),
     ([0b11111101], .undefFD), ([0b11111110, 0b01000010], .cpD8 0x42),
     ([0b11111111], .rst38H)] = true := by decide

theorem test_decode_secondary_00_0F : decodesTo
    [([0b11001011, 0b00000000], .rlcB), ([0b11001011, 0b00000001], .rlcC), ([0b11001011, 0b00000010], .rlcD),
     ([0b11001011, 0b00000011], .rlcE), ([0b11001011, 0b00000100], .rlcH), ([0b11001011, 0b00000101], .rlcL),
     ([0b11001011, 0b00000110], .rlcAtHl), ([0b11001011, 0b00000111], .rlcA), ([0b11001011, 0b00001000], .rrcB),
     ([0b11001011, 0b00001001], .rrcC), ([0b11001011, 0b00001010], .rrcD), ([0b11001011, 0b00001011], .rrcE),
     ([0b11001011, 0b00001100], .rrcH), ([0b11001011, 0b00001101], .rrcL), ([0b11001011, 0b00001110], .rrcAtHl),
     ([0b11001011, 0b00001111], .rrcA)] = true := by decide

theorem test_decode_secondary_10_1F : decodesTo
    [([0b11001011, 0b00010000], .rlB), ([0b11001011, 0b00010001], .rlC), ([0b11001011, 0b00010010], .rlD),
     ([0b11001011, 0b00010011], .rlE), ([0b11001011, 0b00010100], .rlH), ([0b11001011, 0b00010101], .rlL),
     ([0b11001011, 0b00010110], .rlAtHl), ([0b11001011, 0b00010111], .rlA), ([0b11001011, 0b00011000], .rrB),
     ([0b11001011, 0b00011001], .rrC), ([0b11001011, 0b00011010], .rrD), ([0b11001011, 0b00011011], .rrE),
     ([0b11001011, 0b00011100], .rrH), ([0b11001011, 0b00011101], .rrL), ([0b11001011, 0b00011110], .rrAtHl),
     ([0b11001011, 0b00011111], .rrA)] = true := by decide

theorem test_decode_secondary_20_2F : decodesTo
    [([0b11001011, 0b00100000], .slaB), ([0b11001011, 0b00100001], .slaC), ([0b11001011, 0b00100010], .slaD),
     ([0b11001011, 0b00100011], .slaE), ([0b11001011, 0b00100100], .slaH), ([0b11001011, 0b00100101], .slaL),
     ([0b11001011, 0b00100110], .slaAtHl), ([0b11001011, 0b00100111], .slaA), ([0b11001011, 0b00101000], .sraB),
     ([0b11001011, 0b00101001], .sraC), ([0b11001011, 0b00101010], .sraD), ([0b11001011, 0b00101011], .sraE),
     ([0b11001011, 0b00101100], .sraH), ([0b11001011, 0b00101101], .sraL), ([0b11001011, 0b00101110], .sraAtHl),
     ([0b11001011, 0b00101111], .sraA)] = true := by decide

theorem test_decode_secondary_30_3F : decodesTo
    [([0b11001011, 0b00110000], .swapB), ([0b11001011, 0b00110001], .swapC), ([0b11001011, 0b00110010], .swapD),
     ([0b11001011, 0b00110011], .swapE), ([0b11001011, 0b00110100], .swapH), ([0b11001011, 0b00110101], .swapL),
     ([0b11001011, 0b00110110], .swapAtHl), ([0b11001011, 0b00110111], .swapA), ([0b11001011, 0b00111000], .srlB),
     ([0b11001011, 0b00111001], .srlC), ([0b11001011, 0b00111010], .srlD), ([0b11001011, 0b00111011], .srlE),
     ([0b11001011, 0b00111100], .srlH), ([0b11001011, 0b00111101], .srlL), ([0b11001011, 0b00111110], .srlAtHl),
     ([0b11001011, 0b00111111], .srlA)] = true := by decide

theorem test_decode_secondary_40_4F : decodesTo
    [([0b11001011, 0b01000000], .bit0B), ([0b11001011, 0b01000001], .bit0C), ([0b11001011, 0b01000010], .bit0D),
     ([0b11001011, 0b01000011], .bit0E), ([0b11001011, 0b01000100], .bit0H), ([0b11001011, 0b01000101], .bit0L),
     ([0b11001011, 0b01000110], .bit0AtHl), ([0b11001011, 0b01000111], .bit0A),
     ([0b11001011, 0b01001000], .bit1B), ([0b11001011, 0b01001001], .bit1C), ([0b11001011, 0b01001010], .bit1D),
     ([0b11001011, 0b01001011], .bit1E), ([0b11001011, 0b01001100], .bit1H), ([0b11001011, 0b01001101], .bit1L),
     ([0b11001011, 0b01001110], .bit1AtHl), ([0b11001011, 0b01001111], .bit1A)] = true := by decide

theorem test_decode_secondary_50_5F : decodesTo
    [([0b11001011, 0b01010000], .bit2B), ([0b11001011, 0b01010001], .bit2C), ([0b11001011, 0b01010010], .bit2D),
     ([0b11001011, 0b01010011], .bit2E), ([0b11001011, 0b01010100], .bit2H), ([0b11001011, 0b01010101], .bit2L),
     ([0b11001011, 0b01010110], .bit2AtHl), ([0b11001011, 0b01010111], .bit2A),
     ([0b11001011, 0b01011000], .bit3B), ([0b11001011, 0b01011001], .bit3C), ([0b11001011, 0b01011010], .bit3D),
     ([0b11001011, 0b01011011], .bit3E), ([0b11001011, 0b01011100], .bit3H), ([0b11001011, 0b01011101], .bit3L),
     ([0b11001011, 0b01011110], .bit3AtHl), ([0b11001011, 0b01011111], .bit3A)] = true := by decide

theorem test_decode_secondary_60_6F : decodesTo
    [([0b11001011, 0b01100000], .bit4B), ([0b11001011, 0b01100001], .bit4C), ([0b11001011, 0b01100010], .bit4D),
     ([0b11001011, 0b01100011], .bit4E), ([0b11001011, 0b01100100], .bit4H), ([0b11001011, 0b01100101], .bit4L),
     ([0b11001011, 0b01100110], .bit4AtHl), ([0b11001011, 0b01100111], .bit4A),
     ([0b11001011, 0b01101000], .bit5B), ([0b11001011, 0b01101001], .bit5C), ([0b11001011, 0b01101010], .bit5D),
     ([0b11001011, 0b01101011], .bit5E), ([0b11001011, 0b01101100], .bit5H), ([0b11001011, 0b01101101], .bit5L),
     ([0b11001011, 0b01101110], .bit5AtHl), ([0b11001011, 0b01101111], .bit5A)] = true := by decide

theorem test_decode_secondary_70_7F : decodesTo
    [([0b11001011, 0b01110000], .bit6B), ([0b11001011, 0b01110001], .bit6C), ([0b11001011, 0b01110010], .bit6D),
     ([0b11001011, 0b01110011], .bit6E), ([0b11001011, 0b01110100], .bit6H), ([0b11001011, 0b01110101], .bit6L),
     ([0b11001011, 0b01110110], .bit6AtHl), ([0b11001011, 0b01110111], .bit6A),
     ([0b11001011, 0b01111000], .bit7B), ([0b11001011, 0b01111001], .bit7C), ([0b11001011, 0b01111010], .bit7D),
     ([0b11001011, 0b01111011], .bit7E), ([0b11001011, 0b01111100], .bit7H), ([0b11001011, 0b01111101], .bit7L),
     ([0b11001011, 0b01111110], .bit7AtHl), ([0b11001011, 0b01111111], .bit7A)] = true := by decide

theorem test_decode_secondary_80_8F : decodesTo
    [([0b11001011, 0b10000000], .res0B), ([0b11001011, 0b10000001], .res0C), ([0b11001011, 0b10000010], .res0D),
     ([0b11001011, 0b10000011], .res0E), ([0b11001011, 0b10000100], .res0H), ([0b11001011, 0b10000101], .res0L),
     ([0b11001011, 0b10000110], .res0AtHl), ([0b11001011, 0b10000111], .res0A),
     ([0b11001011, 0b10001000], .res1B), ([0b11001011, 0b10001001], .res1C), ([0b11001011, 0b10001010], .res1D),
     ([0b11001011, 0b10001011], .res1E), ([0b11001011, 0b10001100], .res1H), ([0b11001011, 0b10001101], .res1L),
     ([0b11001011, 0b10001110], .res1AtHl), ([0b11001011, 0b10001111], .res1A)] = true := by decide

theorem test_decode_secondary_90_9F : decodesTo
    [([0b11001011, 0b10010000], .res2B), ([0b11001011, 0b10010001], .res2C), ([0b11001011, 0b10010010], .res2D),
     ([0b11001011, 0b10010011], .res2E), ([0b11001011, 0b10010100], .res2H), ([0b11001011, 0b10010101], .res2L),
     ([0b11001011, 0b10010110], .res2AtHl), ([0b11001011, 0b10010111], .res2A),
     ([0b11001011, 0b10011000], .res3B), ([0b11001011, 0b10011001], .res3C), ([0b11001011, 0b10011010], .res3D),
     ([0b11001011, 0b10011011], .res3E), ([0b11001011, 0b10011100], .res3H), ([0b11001011, 0b10011101], .res3L),
     ([0b11001011, 0b10011110], .res3AtHl), ([0b11001011, 0b10011111], .res3A)] = true := by decide

theorem test_decode_secondary_A0_AF : decodesTo
    [([0b11001011, 0b10100000], .res4B), ([0b11001011, 0b10100001], .res4C), ([0b11001011, 0b10100010], .res4D),
     ([0b11001011, 0b10100011], .res4E), ([0b11001011, 0b10100100], .res4H), ([0b11001011, 0b10100101], .res4L),
     ([0b11001011, 0b10100110], .res4AtHl), ([0b11001011, 0b10100111], .res4A),
     ([0b11001011, 0b10101000], .res5B), ([0b11001011, 0b10101001], .res5C), ([0b11001011, 0b10101010], .res5D),
     ([0b11001011, 0b10101011], .res5E), ([0b11001011, 0b10101100], .res5H), ([0b11001011, 0b10101101], .res5L),
     ([0b11001011, 0b10101110], .res5AtHl), ([0b11001011, 0b10101111], .res5A)] = true := by decide

theorem test_decode_secondary_B0_BF : decodesTo
    [([0b11001011, 0b10110000], .res6B), ([0b11001011, 0b10110001], .res6C), ([0b11001011, 0b10110010], .res6D),
     ([0b11001011, 0b10110011], .res6E), ([0b11001011, 0b10110100], .res6H), ([0b11001011, 0b10110101], .res6L),
     ([0b11001011, 0b10110110], .res6AtHl), ([0b11001011, 0b10110111], .res6A),
     ([0b11001011, 0b10111000], .res7B), ([0b11001011, 0b10111001], .res7C), ([0b11001011, 0b10111010], .res7D),
     ([0b11001011, 0b10111011], .res7E), ([0b11001011, 0b10111100], .res7H), ([0b11001011, 0b10111101], .res7L),
     ([0b11001011, 0b10111110], .res7AtHl), ([0b11001011, 0b10111111], .res7A)] = true := by decide

theorem test_decode_secondary_C0_CF : decodesTo
    [([0b11001011, 0b11000000], .set0B), ([0b11001011, 0b11000001], .set0C), ([0b11001011, 0b11000010], .set0D),
     ([0b11001011, 0b11000011], .set0E), ([0b11001011, 0b11000100], .set0H), ([0b11001011, 0b11000101], .set0L),
     ([0b11001011, 0b11000110], .set0AtHl), ([0b11001011, 0b11000111], .set0A),
     ([0b11001011, 0b11001000], .set1B), ([0b11001011, 0b11001001], .set1C), ([0b11001011, 0b11001010], .set1D),
     ([0b11001011, 0b11001011], .set1E), ([0b11001011, 0b11001100], .set1H), ([0b11001011, 0b11001101], .set1L),
     ([0b11001011, 0b11001110], .set1AtHl), ([0b11001011, 0b11001111], .set1A)] = true := by decide

theorem test_decode_secondary_D0_DF : decodesTo
    [([0b11001011, 0b11010000], .set2B), ([0b11001011, 0b11010001], .set2C), ([0b11001011, 0b11010010], .set2D),
     ([0b11001011, 0b11010011], .set2E), ([0b11001011, 0b11010100], .set2H), ([0b11001011, 0b11010101], .set2L),
     ([0b11001011, 0b11010110], .set2AtHl), ([0b11001011, 0b11010111], .set2A),
     ([0b11001011, 0b11011000], .set3B), ([0b11001011, 0b11011001], .set3C), ([0b11001011, 0b11011010], .set3D),
     ([0b11001011, 0b11011011], .set3E), ([0b11001011, 0b11011100], .set3H), ([0b11001011, 0b11011101], .set3L),
     ([0b11001011, 0b11011110], .set3AtHl), ([0b11001011, 0b11011111], .set3A)] = true := by decide

theorem test_decode_secondary_E0_EF : decodesTo
    [([0b11001011, 0b11100000], .set4B), ([0b11001011, 0b11100001], .set4C), ([0b11001011, 0b11100010], .set4D),
     ([0b11001011, 0b11100011], .set4E), ([0b11001011, 0b11100100], .set4H), ([0b11001011, 0b11100101], .set4L),
     ([0b11001011, 0b11100110], .set4AtHl), ([0b11001011, 0b11100111], .set4A),
     ([0b11001011, 0b11101000], .set5B), ([0b11001011, 0b11101001], .set5C), ([0b11001011, 0b11101010], .set5D),
     ([0b11001011, 0b11101011], .set5E), ([0b11001011, 0b11101100], .set5H), ([0b11001011, 0b11101101], .set5L),
     ([0b11001011, 0b11101110], .set5AtHl), ([0b11001011, 0b11101111], .set5A)] = true := by decide

theorem test_decode_secondary_F0_FF : decodesTo
    [([0b11001011, 0b11110000], .set6B), ([0b11001011, 0b11110001], .set6C), ([0b11001011, 0b11110010], .set6D),
     ([0b11001011, 0b11110011], .set6E), ([0b11001011, 0b11110100], .set6H), ([0b11001011, 0b11110101], .set6L),
     ([0b11001011, 0b11110110], .set6AtHl), ([0b11001011, 0b11110111], .set6A),
     ([0b11001011, 0b11111000], .set7B), ([0b11001011, 0b11111001], .set7C), ([0b11001011, 0b11111010], .set7D),
     ([0b11001011, 0b11111011], .set7E), ([0b11001011, 0b11111100], .set7H), ([0b11001011, 0b11111101], .set7L),
     ([0b11001011, 0b11111110], .set7AtHl), ([0b11001011, 0b11111111], .set7A)] = true := by decide

/-- Bytes that end too early are refused by name, and say which byte is missing. -/
theorem test_decode_short : decode [] = .error .noOpcode ∧ decode [0x06] = .error (.operandMissing 0x06) ∧
    decode [0x21, 0x00] = .error (.operandMissing 0x21) ∧ decode [0x18] = .error (.operandMissing 0x18) := by decide

/-- S5 and V42: -1, 127 and -128. -/
theorem test_decode_signed : decode [0x18, 0xFF] = .ok (.jrR8 (-1), []) ∧ decode [0x18, 0x7F] = .ok (.jrR8 127, []) ∧
    decode [0x18, 0x80] = .ok (.jrR8 (-128), []) := by decide

/-- The word numbering: the first byte is bits 7..0; a CB row's match has its first byte in bits 15..8. -/
theorem test_decodeTableWord : decodeTableWord 8 0x76 = some .halt ∧ decodeTableWord 16 0x4206 = some (.ldBD8 0x42) ∧
    decodeTableWord 24 0xC00021 = some (.ldHlD16 0xC000) ∧ decodeTableWord 8 0x21 = some (.ldHlD16 0) ∧
    decodeTableWord 16 0xCB5E = some .bit3AtHl ∧ decodeTableWord 16 0x5ECB = some .bit3AtHl ∧
    decodeTableWord 8 0xCB = some .prefixCb ∧ decodeTableWord 8 0xD3 = some .undefD3 := by decide

/-! ## Helpers -/

/-- A block at PC `pc` over the memory `m`, built with concrete parameters; otherwise as after reset. -/
def blockAt (pc : Word) (m : Memory) : State :=
  { State.reset with
    regs := { RegFile.reset 0x0013 with pc := pc }
    params := ⟨0x0013, " | ", 0xFF00, [0xFF04, 0xFF05, 0xFF06, 0xFF07], 1⟩
    mem := m }

/-- The state after one step that serves `r`. -/
def after (r : Request) (s : State) : Option State :=
  match step { s with requests := [r] } with
  | .next t => some t
  | .fault _ => none
  | .refused _ => none

/-- The value `r` returns. -/
def answer (r : Request) (s : State) : Option Ret := (after r s).map State.ret

/-- The line a trace call emits, and its reads. -/
def traced (o : TraceOptions) (cycles : Cycles) (s : State) : Option (List String × List Word) :=
  (after (.formatLine o cycles) s).map (fun t => (t.sink, t.reads))

/-- The register file after `r`. -/
def regsAfter (r : Request) (s : State) : Option RegFile := (after r s).map State.regs

/-! ## Reset (S9, V1, V2, V15) -/

theorem test_reset_pairs : State.reset.regs.get16 .af = 0x1100 ∧ State.reset.regs.get16 .de = 0xFF56 ∧
    State.reset.regs.get16 .hl = 0x000D ∧ State.reset.regs.get16 .sp = 0xFFFE ∧ State.reset.regs.get16 .pc = 0x0100 ∧
    State.reset.regs.running = false := by decide

theorem test_reset_halves : State.reset.regs.getHigh .af = 0x11 ∧ State.reset.regs.getLow .af = 0x00 ∧
    State.reset.regs.getLow .hl = 0x0D := by decide

/-! ## The register file (S7, S8, V3 to V17) -/

theorem test_S7 : ((RegFile.reset 0).setHigh .hl 0xAB |>.setLow .hl 0xCD).get16 .hl = 0xABCD := by decide

theorem test_S8 : ((RegFile.reset 0).set16 .hl 0x1234).getHigh .hl = 0x12 ∧
    ((RegFile.reset 0).set16 .hl 0x1234).getLow .hl = 0x34 := by decide

theorem test_V3 : regsAfter (.set16 .bc 0xBEEF) (blockAt 0x100 []) =
    some ⟨0x1100, 0xBEEF, 0xFF56, 0x000D, 0xFFFE, 0x0100, false⟩ := by decide

theorem test_V4 : ((RegFile.reset 0).set16 .de 0 |>.setHigh .de 0xFF).get16 .de = 0xFF00 := by decide

theorem test_V5 : ((RegFile.reset 0).set16 .de 0 |>.setLow .de 0xFF).get16 .de = 0x00FF := by decide

theorem test_V6 : (regsAfter (.setHigh .sp 0x00) (blockAt 0x100 [])).map (·.sp) = some 0x00FE := by decide

/-- V9: the low nibble of F is discarded. -/
theorem test_V9 : (regsAfter (.set16 .af 0x12FF) (blockAt 0x100 [])).map (·.af) = some 0x12F0 := by decide

theorem test_V10 : (regsAfter (.setLow .af 0x0F) (blockAt 0x100 [])).map (·.af) = some 0x1100 := by decide

theorem test_V11 : (regsAfter (.setLow .af 0xA5) (blockAt 0x100 [])).map
    (fun r => (r.getLow .af, r.getFlag .z, r.getFlag .n, r.getFlag .h, r.getFlag .c)) =
      some (0xA0, true, false, true, false) := by decide

theorem test_V12 : ((RegFile.reset 0).set16 .af 0x12FF |>.setHigh .af 0x00).get16 .af = 0x00F0 := by decide

theorem test_V16 : (regsAfter (.setRunning true) (blockAt 0x100 [])).map (fun r => (r.running, r.pc)) =
    some (true, 0x0100) := by decide

theorem test_get : answer (.get16 .hl) (blockAt 0x100 []) = some (.u16 0x000D) ∧
    answer (.getHigh .de) (blockAt 0x100 []) = some (.u8 0xFF) ∧ answer (.getLow .de) (blockAt 0x100 []) = some (.u8 0x56) ∧
    answer .getRunning (blockAt 0x100 []) = some (.bool false) := by decide

/-- Construction from any register file. -/
theorem test_construct :
    regsAfter .construct { blockAt 0xC000 [] with regs := ⟨0, 0, 0, 0, 0, 0xC000, true⟩ } =
      some ⟨0x1100, 0x0013, 0xFF56, 0x000D, 0xFFFE, 0x0100, false⟩ := by decide

/-! ## Flags (S6, V20, V21, R122) -/

theorem test_S6 : ((RegFile.reset 0).setFlag .c true).getLow .af = 0x10 ∧
    ((RegFile.reset 0).setFlag .c true |>.setFlag .c false).getLow .af = 0x00 := by decide

theorem test_V20 : (regsAfter (.setFlag .z true) (blockAt 0x100 [])).map (·.af) = some 0x1180 ∧
    ((RegFile.reset 0).setFlag .z true |>.setFlag .n true).af = 0x11C0 := by decide

/-- The example of R122. -/
theorem test_R122 : answer (.getFlag .z) { blockAt 0 [] with regs := ⟨0x11B0, 0, 0, 0, 0, 0, false⟩ } = some (.bool true) ∧
    answer (.getFlag .n) { blockAt 0 [] with regs := ⟨0x11B0, 0, 0, 0, 0, 0, false⟩ } = some (.bool false) ∧
    answer (.getFlag .h) { blockAt 0 [] with regs := ⟨0x11B0, 0, 0, 0, 0, 0, false⟩ } = some (.bool true) ∧
    answer (.getFlag .c) { blockAt 0 [] with regs := ⟨0x11B0, 0, 0, 0, 0, 0, false⟩ } = some (.bool true) := by decide

/-! ## Operand readers and rendering (S4, V41 to V59) -/

theorem test_S4 : answer .readImmediate16 (blockAt 0x100 [(0x100, 0x01), (0x101, 0x34), (0x102, 0x12)]) =
    some (.u16 0x1234) := by decide

theorem test_V41 : answer .readImmediate8 (blockAt 0x100 [(0x101, 0xFF)]) = some (.u8 0xFF) := by decide

theorem test_V44 : answer .readSignedRelative8 (blockAt 0x100 [(0x101, 0x81)]) = some (.i8 (-127)) := by decide

/-- V47: reads at 0xFFFF and then at 0x0000. -/
theorem test_V47 : (after .readImmediate16 (blockAt 0xFFFE [(0x0000, 0xAB), (0xFFFF, 0xCD)])).map
    (fun t => (t.ret, t.reads)) = some (.u16 0xABCD, [0xFFFF, 0x0000]) := by decide

theorem test_V48 : (after .readAddress16 (blockAt 0xFFFF [(0x0000, 0x34), (0x0001, 0x12)])).map
    (fun t => (t.ret, t.reads)) = some (.u16 0x1234, [0x0000, 0x0001]) := by decide

theorem test_render_hex : renderOperand (.imm16 0xC000) = "0xc000" ∧ renderOperand (.addr16 0x0005) = "0x5" ∧
    renderOperand (.imm8 0x00) = "0x0" ∧ renderOperand (.addr16 0xFFFF) = "0xffff" ∧
    renderOperand (.imm16 0x0100) = "0x100" := by decide

theorem test_render_dec : renderOperand (.rel8 (-128)) = "-128" ∧ renderOperand (.rel8 127) = "127" ∧
    renderOperand (.rel8 0) = "0" ∧ answer (.renderOperand (.imm8 0xFF)) (blockAt 0 []) = some (.text "0xff") := by decide

/-! ## The tables (S2, S11 to S14) -/

theorem test_templates : decodePrimary 0xD3 = ⟨"????", .none⟩ ∧ decodePrimary 0xCB = ⟨"PREFIX CB", .none⟩ ∧
    decodePrimary 0x21 = ⟨"LD HL, d16", .imm16⟩ ∧ decodeSecondary 0x5E = ⟨"BIT 3, (HL)", .none⟩ ∧
    decodeSecondary 0xBF = ⟨"RES 7, A", .none⟩ := by decide

theorem test_lookup : answer (.decodePrimary 0xE8) (blockAt 0 []) = some (.template ⟨"ADD SP, r8", .rel8⟩) ∧
    answer (.decodeSecondary 0xCB) (blockAt 0 []) = some (.template ⟨"SET 1, E", .none⟩) := by decide

/-! ## Trace calls (S3, S10, V130 to V150, programs 2 and 3) -/

theorem test_S3 : traced .off 0 (blockAt 0x200 [(0x200, 0xCB), (0x201, 0x7C)]) =
    some (["BIT 7, H\n"], [0x200, 0x201]) := by decide

theorem test_S10 : traced .off 0 (blockAt 0x100 [(0x100, 0x21), (0x101, 0x00), (0x102, 0xC0)]) =
    some (["LD HL, d16 0xc000\n"], [0x100, 0x101, 0x102]) := by decide

theorem test_V131 : traced .off 0 (blockAt 0x150 [(0x150, 0x18), (0x151, 0x80)]) =
    some (["JR r8 -128\n"], [0x150, 0x151]) := by decide

/-- V133: `0x44` and not `0xff44`. -/
theorem test_V133 : traced .off 0 (blockAt 0x150 [(0x150, 0xE0), (0x151, 0x44)]) =
    some (["LDH (a8), A 0x44\n"], [0x150, 0x151]) := by decide

theorem test_V136 : traced .off 0 (blockAt 0x200 [(0x200, 0xCD), (0x201, 0x05), (0x202, 0x00)]) =
    some (["CALL a16 0x5\n"], [0x200, 0x201, 0x202]) := by decide

/-- V139 and V140: the byte after is not read. -/
theorem test_V139 : traced .off 0 (blockAt 0x200 [(0x200, 0xD3), (0x201, 0x12)]) = some (["????\n"], [0x200]) ∧
    traced .off 0 (blockAt 0x200 [(0x200, 0x10), (0x201, 0x00)]) = some (["STOP 0\n"], [0x200]) := by decide

theorem test_V143 : traced .off 0 (blockAt 0xFFFF [(0x0000, 0x34), (0x0001, 0x12), (0xFFFF, 0x21)]) =
    some (["LD HL, d16 0x1234\n"], [0xFFFF, 0x0000, 0x0001]) := by decide

theorem test_V144 : traced .off 0 (blockAt 0xFFFF [(0x0000, 0x37), (0xFFFF, 0xCB)]) =
    some (["SWAP A\n"], [0xFFFF, 0x0000]) := by decide

theorem test_V145 : traced ⟨true, false, false, false, false⟩ 0 (blockAt 0x100 [(0x100, 0x00)]) =
    some (["0x100 | NOP\n"], [0x100]) := by decide

/-- V147: the largest cycle count. -/
theorem test_V147 : traced ⟨false, false, true, false, false⟩ 0xFFFFFFFFFFFFFFFF (blockAt 0x100 [(0x100, 0x00)]) =
    some (["18446744073709551615 | NOP\n"], [0x100]) := by decide

theorem test_V148 : traced ⟨false, false, false, true, false⟩ 0
      (blockAt 0x100 [(0x100, 0x3E), (0x101, 0x01), (0xFF00, 0xEF)]) =
    some (["0xef | LD A, d8 0x1\n"], [0xFF00, 0x100, 0x101]) := by decide

theorem test_V149 : traced ⟨false, false, false, false, true⟩ 0
      (blockAt 0x100 [(0x100, 0x00), (0xFF04, 0x1F), (0xFF05, 0x00), (0xFF06, 0x80), (0xFF07, 0x05)]) =
    some (["0x1f 0x0 0x80 0x5 | NOP\n"], [0xFF04, 0xFF05, 0xFF06, 0xFF07, 0x100]) := by decide

/-- Program 2, step 11: nothing but the reads and the line. -/
theorem test_program2 :
    after (.formatLine ⟨false, true, false, false, false⟩ 0)
      { blockAt 0xFFFF [(0x0000, 0x80), (0xFFFF, 0x3E)] with
        regs := ⟨0x1250, 0x0000, 0xFF56, 0xABCD, 0xC0FE, 0xFFFF, true⟩ } =
    some { blockAt 0xFFFF [(0x0000, 0x80), (0xFFFF, 0x3E)] with
      regs := ⟨0x1250, 0x0000, 0xFF56, 0xABCD, 0xC0FE, 0xFFFF, true⟩, reads := [0xFFFF, 0x0000],
      sink := ["0101 | LD A, d8 0x80\n"], ret := .text "0101 | LD A, d8 0x80\n" } := by decide

/-- Program 3: all five toggles, a prefixed instruction across the top of memory. -/
theorem test_program3 :
    traced ⟨true, true, true, true, true⟩ 1234
      { blockAt 0xFFFF [(0x0000, 0x37), (0xFF00, 0xCF), (0xFF04, 0xAB), (0xFF05, 0x00), (0xFF06, 0x00), (0xFF07, 0xF8),
          (0xFFFF, 0xCB)] with regs := ⟨0x1190, 0, 0xFF56, 0x000D, 0xFFFE, 0xFFFF, false⟩ } =
    some (["0xffff 1001 1234 0xcf 0xab 0x0 0x0 0xf8 | SWAP A\n"],
      [0xFF00, 0xFF04, 0xFF05, 0xFF06, 0xFF07, 0xFFFF, 0x0000]) := by decide

/-- Two reads of one address in one call may differ (R64): here both are at 0x0000. -/
theorem test_reads_may_differ :
    (after (.formatLine ⟨false, false, false, true, false⟩ 0)
      { blockAt 0x0000 [] with
        params := ⟨0, "|", 0x0000, [], 1⟩
        answers := [0x76, 0x00] }).map (fun t => (t.sink, t.reads, t.answers)) =
      some (["0x76|NOP\n"], [0x0000, 0x0000], []) := by decide

/-- R62: the engine's store is seen by the next trace call. -/
theorem test_engine_store : (after (.busStore 0x0100 0x76) (blockAt 0x0100 [(0x0100, 0x00)])).bind
    (traced .off 0) = some (["HALT\n"], [0x0100]) := by decide

/-- With no request waiting a step changes nothing. -/
theorem test_idle : step State.reset = .next State.reset := rfl

/-- The placed word runs as the very next step, for a three-byte row, a CB row, an undefined byte, the marker. -/
theorem test_withFetchWord :
    (match step (State.reset.withFetchWord 24 0xC00021) with
      | .next t => t.sink
      | .fault _ => []
      | .refused _ => []) = ["LD HL, d16 0xc000\n"] ∧
    (match step (State.reset.withFetchWord 16 0xCB5E) with
      | .next t => t.sink
      | .fault _ => []
      | .refused _ => []) = ["BIT 3, (HL)\n"] ∧
    (match step (State.reset.withFetchWord 8 0xD3) with
      | .next t => t.sink
      | .fault _ => []
      | .refused _ => []) = ["????\n"] ∧
    (match step (State.reset.withFetchWord 8 0xCB) with
      | .next t => t.ret
      | .fault _ => .unit
      | .refused _ => .unit) = .template ⟨"PREFIX CB", .none⟩ := by decide

/-- The placed bytes keep the memory's form, across the top of the address space too. -/
theorem test_place_wf : (Memory.place [] 0xFFFF [1, 2, 3]).wf = true ∧
    Memory.place [] 0xFFFF [1, 2, 3] = [(0, 2), (1, 3), (0xFFFF, 1)] := by decide

/-! ## Witnesses: for each statement with hypotheses, a state and operands that meet all of them together -/

theorem witness_StepRunsTheDecodedInstruction :
    (blockAt 0xFFFF [(0, 0x34), (1, 0x12), (0xFFFF, 0x21)]).answers = [] ∧
    (blockAt 0xFFFF [(0, 0x34), (1, 0x12), (0xFFFF, 0x21)]).mem.get? (0xFFFF : Word).toNat = some 0x21 ∧
    (blockAt 0xFFFF [(0, 0x34), (1, 0x12), (0xFFFF, 0x21)]).mem.get? ((0xFFFF : Word) + 1).toNat = some 0x34 ∧
    (blockAt 0xFFFF [(0, 0x34), (1, 0x12), (0xFFFF, 0x21)]).mem.get? ((0xFFFF : Word) + 2).toNat = some 0x12 ∧
    (blockAt 0xFFFF [(0, 0x34), (1, 0x12), (0xFFFF, 0x21)]).regs.pc = 0xFFFF ∧
    decode [0x21, 0x34, 0x12] = .ok (.ldHlD16 0x1234, []) := by decide

theorem witness_StepRunsTheInstructionTheBusAnswers :
    (decode [0xCB, 0xCB] = .ok (.set1E, []) ∧ ([0xCB, 0xCB] : List Byte) ≠ [0xCB]) ∧
    (decode [0x20, 0x80] = .ok (.jrNzR8 (-128), []) ∧ ([0x20, 0x80] : List Byte) ≠ [0xCB]) := by decide

theorem witness_EncodedBytesDetermineTheLine :
    ((Instr.jrR8 (-128)).wellFormed = true ∧ Instr.jrR8 (-128) ≠ .prefixCb) ∧
    ((Instr.ldHlD16 0xFFFF).wellFormed = true ∧ Instr.ldHlD16 0xFFFF ≠ .prefixCb) ∧
    (Instr.set7A.wellFormed = true ∧ Instr.set7A ≠ .prefixCb) := by decide

/-- Both ways to meet the hypotheses: listed bytes, and dictated ones. -/
theorem witness_FirstTraceReadsTheEntryPoint :
    ((blockAt 0x0100 [(0x0100, 0x21), (0x0101, 0x00), (0x0102, 0xC0)]).regs = RegFile.reset 0x0013 ∧
      (blockAt 0x0100 [(0x0100, 0x21), (0x0101, 0x00), (0x0102, 0xC0)]).busAnswer 0x0100 = 0x21 ∧
      (afterReads (blockAt 0x0100 [(0x0100, 0x21), (0x0101, 0x00), (0x0102, 0xC0)]) [0x0100]).busAnswer 0x0101 = 0x00 ∧
      (afterReads (blockAt 0x0100 [(0x0100, 0x21), (0x0101, 0x00), (0x0102, 0xC0)]) [0x0100, 0x0101]).busAnswer
        0x0102 = 0xC0) ∧
    ({ blockAt 0x0100 [] with answers := [0xCB, 0x37, 0x00] } : State).regs = RegFile.reset 0x0013 ∧
    ∃ tail, ({ blockAt 0x0100 [] with answers := [0xCB, 0x37, 0x00] } : State).answers = 0xCB :: 0x37 :: 0x00 :: tail :=
  ⟨by decide, by decide, [], rfl⟩

theorem witness_InstructionsLeaveTheMachineUnchanged : ∃ t, exec .halt State.reset = .next t := ⟨_, rfl⟩

theorem witness_TraceCallComputesTheLine :
    ([0x1F, 0x00, 0x80, 0x05] : List Byte).length = State.reset.params.timerAddrs.length := by decide

theorem witness_TraceLineHoldsOneNewline : (blockAt 0x100 []).params.wf = true := by decide

theorem witness_WritesTouchOnlyTheirHalfOrPair : Pair.hl ≠ Pair.af ∧ Pair.af ≠ Pair.pc := by decide

theorem witness_LowByteOfAfIsTheFourFlags :
    ({ blockAt 0x100 [] with regs := ⟨0x12F0, 0, 0, 0, 0, 0, true⟩ } : State).Inv := by decide

theorem witness_WordReadersAreLittleEndian :
    (Request.readImmediate16 = .readImmediate16 ∨ Request.readImmediate16 = .readAddress16) ∧
    (Request.readAddress16 = .readImmediate16 ∨ Request.readAddress16 = .readAddress16) := by decide

/-- One witness for each clause at both ends of its range; 0x76 falls under neither. -/
theorem witness_PrimaryBlocksAreRegular :
    (fieldX 0x40 = 1 ∧ (0x40 : Byte) ≠ 0x76) ∧ (fieldX 0x7F = 1 ∧ (0x7F : Byte) ≠ 0x76) ∧
    fieldX 0x80 = 2 ∧ fieldX 0xBF = 2 ∧ fieldX 0x3F = 0 ∧ fieldX 0xC0 = 3 := by decide

theorem witness_DecodeInvertsEncode :
    ((Instr.addSpR8 127).wellFormed = true ∧ (Instr.addSpR8 127 = .prefixCb → ([0xAA] : List Byte) = [])) ∧
    (Instr.prefixCb.wellFormed = true ∧ (Instr.prefixCb = .prefixCb → ([] : List Byte) = [])) := by decide

theorem witness_EncodeInvertsDecode : decode [0x18, 0x80, 0x07] = .ok (.jrR8 (-128), [0x07]) ∧
    decode [0xCB] = .ok (.prefixCb, []) := by decide

theorem witness_FirstByteGivesTheLength : decode (0xCB :: 0xCB :: [0x00]) = .ok (.set1E, [0x00]) ∧
    decode (0xFA :: 0xFF :: [0xFF]) = .ok (.ldAAtA16 0xFFFF, []) := by decide

theorem witness_StepKeepsTheInvariant :
    (blockAt 0x100 [(0, 1), (0xFFFF, 2)]).Inv ∧ ∃ t, step (blockAt 0x100 [(0, 1), (0xFFFF, 2)]) = .next t :=
  ⟨by decide, _, rfl⟩

theorem witness_OnlyWriteRequestsChangeRegisters :
    Request.writesRegisters (.formatLine .off 0) = false ∧
    ∃ t, step { blockAt 0x100 [(0x100, 0x76)] with requests := .formatLine .off 0 :: [.getRunning] } = .next t :=
  ⟨rfl, _, rfl⟩

theorem witness_NoBlockOperationWritesMemory :
    Request.ofBlock (.setLow .af 0xFF) = true ∧
    ∃ t, step { blockAt 0x100 [(0x100, 0x76)] with requests := .setLow .af 0xFF :: [] } = .next t :=
  ⟨rfl, _, rfl⟩

theorem witness_NoStepReportsOrForgets :
    ∃ t, step { blockAt 0x100 [(0x100, 0x76)] with requests := [.readImmediate16] } = .next t := ⟨_, rfl⟩

theorem witness_RunningHasNoEffect :
    (Request.formatLine .off 0 ≠ .getRunning) ∧
    ∃ t, step { blockAt 0x100 [(0x100, 0x76)] with requests := .formatLine .off 0 :: [] } = .next t :=
  ⟨by decide, _, rfl⟩

theorem witness_EngineStoreIsSeenByTheNextRead : (0x0101 : Nat) ≠ (0x0100 : Word).toNat := by decide

/-- Bit 0, bit 15, and the bit of a flag at either end of the flags' range. -/
theorem witness_SetFlagWritesExactlyOneBit : 0 < 16 ∧ 15 < 16 ∧ (7 < 16 ∧ 7 = flagBit .z) ∧ (4 < 16 ∧ 4 = flagBit .c) ∧
    0 ≠ flagBit .c ∧ 15 ≠ flagBit .z := by decide

/-- Zero and a nonzero value, with the digits the statement asks for. -/
theorem witness_HexRendersTheValue : hex 0 = "0x0" ∧ hex 0xC000 = "0xc000" ∧ valueOf 16 [12, 0, 0, 0] = 0xC000 := by
  decide

/-- Zero, a negative and a positive value. -/
theorem witness_DecRendersTheSignedValue : dec 0 = "0" ∧ dec (-128) = "-128" ∧ dec 127 = "127" ∧
    valueOf 10 [1, 2, 8] = (-128 : Int).natAbs := by decide

end Sys2Proof.Tests
end

section
/-! PROOFS. What one step can do to the state (30_encoding.md R85, 47_trace_emitter.md R302, R313), said once: the
instruction that a trace call reads is never the stand-alone marker, so the call ends with its line, and each request
has one of four effects. -/

namespace Sys2Proof.Machine

/-! ## The instruction at PC -/

/-- The instruction made from a primary entry, whatever operand is read, is one that the opcode byte begins. -/
theorem encode_readOperandOf_head? (b : Byte) (s : State) :
    (encode (readOperandOf (primaryEntry b) s).1).head? = some b := by
  obtain ⟨n, hn, rfl⟩ : ∃ n < 256, b = BitVec.ofNat 8 n := ⟨b.toNat, b.isLt, by simp⟩
  interval_cases n <;> rfl

theorem readOperandOf_ne_prefixCb (b : Byte) (s : State) (hb : b ≠ 0xCB) :
    (readOperandOf (primaryEntry b) s).1 ≠ .prefixCb := by
  intro hi
  have hhead := encode_readOperandOf_head? b s
  rw [hi] at hhead
  exact hb (Option.some.inj hhead).symm

/-- Every instruction of the secondary table is encoded as the escape byte and its own index (R84, R180). -/
theorem encode_secondaryInstr (b : Byte) : encode (secondaryInstr b) = [0xCB, b] := by
  revert b
  decide

theorem secondaryInstr_ne_prefixCb (b : Byte) : secondaryInstr b ≠ .prefixCb := by
  intro hi
  have henc := encode_secondaryInstr b
  rw [hi] at henc
  simp [encode] at henc

/-- No trace call meets the stand-alone marker: a byte always follows 0xCB at PC (R162, R303). -/
theorem fetchInstr_ne_prefixCb (s : State) : (fetchInstr s).1 ≠ .prefixCb := by
  by_cases h : s.busAnswer s.regs.pc = 0xCB
  · rw [fetchInstr_escape s h]
    exact secondaryInstr_ne_prefixCb _
  · rw [fetchInstr_primary s h]
    exact readOperandOf_ne_prefixCb _ _ h

/-! ## A trace call -/

/-- Every meaning but the marker's emits one line and ends the call (R311, R312). -/
theorem exec_emits_line (i : Instr) (hi : i ≠ .prefixCb) (s : State) :
    ∃ body, exec i s = .next (s.emitLine (traceLine s body)) := by
  cases i
  case prefixCb => exact absurd rfl hi
  all_goals exact ⟨_, rfl⟩

/-- A trace call reads, then emits one line. -/
theorem opFormatLine_emits_line (o : TraceOptions) (cycles : Cycles) (s : State) :
    ∃ u line, OnlyReads s u ∧ opFormatLine o cycles s = .next (u.emitLine line) := by
  have hreads := (gatherFields_onlyReads o cycles s).trans (fetchInstr_onlyReads _)
  obtain ⟨body, hbody⟩ := exec_emits_line _ (fetchInstr_ne_prefixCb (gatherFields o cycles s)) _
  exact ⟨_, _, hreads, (opFormatLine_eq o cycles s).trans hbody⟩

/-! ## The effect of a request -/

/-- What serving the request `r` in the state `s` can leave. -/
inductive Effect (s : State) (r : Request) : State → Prop where
  /-- At most reads of the bus, and a value returned: the register reads, the operand readers, the lookups. -/
  | answers (u : State) (v : Ret) (hr : r.writesRegisters = false) (hu : OnlyReads s u) (hf : u.fields = s.fields) :
      Effect s r (u.returns v)
  /-- Reads, and the line of a trace call. -/
  | traces (u : State) (line : String) (hr : r.writesRegisters = false) (hu : OnlyReads s u) :
      Effect s r (u.emitLine line)
  /-- A new register file, in which the low nibble of F is still zero if it was (R23). -/
  | writes (f : RegFile) (hr : r.writesRegisters = true)
      (hf : s.regs.af &&& 0x000F = 0 → f.af &&& 0x000F = 0) : Effect s r ((s.setRegs f).returns .unit)
  /-- A byte the engine stores (R62). -/
  | stores (a : Word) (v : Byte) (hr : r = .busStore a v) : Effect s r { s with mem := s.mem.set a.toNat v }

/-- A request that returns a value and does nothing else. -/
theorem Effect.returns {s : State} {r : Request} (v : Ret) (hr : r.writesRegisters = false) :
    Effect s r (s.returns v) := .answers s v hr (.refl s) rfl

/-- Every request is served, with one of the effects. -/
theorem serve_effect (r : Request) (s : State) : ∃ t, serve r s = .next t ∧ Effect s r t := by
  cases r with
  | set16 p v => exact ⟨_, rfl, .writes _ rfl (RegFile.set16_lowNibble _ p v)⟩
  | setHigh p v => exact ⟨_, rfl, .writes _ rfl (RegFile.setHigh_lowNibble _ p v)⟩
  | setLow p v => exact ⟨_, rfl, .writes _ rfl (RegFile.setLow_lowNibble _ p v)⟩
  | setRunning v => exact ⟨_, rfl, .writes _ rfl id⟩
  | setFlag f v => exact ⟨_, rfl, .writes _ rfl (RegFile.setFlag_lowNibble _ f v)⟩
  | construct => exact ⟨_, rfl, .writes _ rfl fun _ => RegFile.reset_lowNibble _⟩
  | busStore a v => exact ⟨_, rfl, .stores a v rfl⟩
  | formatLine o cycles =>
    obtain ⟨u, line, hu, hline⟩ := opFormatLine_emits_line o cycles s
    exact ⟨_, hline, .traces u line rfl hu⟩
  | readImmediate8 => exact ⟨_, rfl, .answers _ _ rfl (.afterRead s _) rfl⟩
  | readSignedRelative8 => exact ⟨_, rfl, .answers _ _ rfl (.afterRead s _) rfl⟩
  | readImmediate16 => exact ⟨_, rfl, .answers _ _ rfl ((OnlyReads.afterRead s _).trans (.afterRead _ _)) rfl⟩
  | readAddress16 => exact ⟨_, rfl, .answers _ _ rfl ((OnlyReads.afterRead s _).trans (.afterRead _ _)) rfl⟩
  | get16 | getHigh | getLow | getRunning | getFlag | renderOperand | decodePrimary | decodeSecondary =>
    exact ⟨_, rfl, .returns _ rfl⟩

/-- What a served request leaves is one of the effects. -/
theorem effect_of_serve {r : Request} {s t : State} (h : serve r s = .next t) : Effect s r t := by
  obtain ⟨u, hu, heffect⟩ := serve_effect r s
  obtain rfl : u = t := Host.Outcome.next.inj (hu.symm.trans h)
  exact heffect

/-- What a step can do: stay idle, or serve the oldest request with its effect. -/
theorem step_cases {s t : State} (h : step s = .next t) :
    (s.requests = [] ∧ t = s) ∨
      ∃ r rest, s.requests = r :: rest ∧ Effect { s with requests := rest } r t := by
  unfold step at h
  split at h
  next hq => exact .inl ⟨hq, (Host.Outcome.next.inj h).symm⟩
  next r rest hq => exact .inr ⟨r, rest, hq, effect_of_serve h⟩

/-- A request that writes no register keeps the whole register file, PC included (R31, R32). -/
theorem Effect.regs_eq {s t : State} {r : Request} (h : Effect s r t) (hr : r.writesRegisters = false) :
    t.regs = s.regs := by
  cases h with
  | answers u v _ hu _ => exact hu.regs
  | traces u line _ hu => exact hu.regs
  | writes f hw _ => simp [hw] at hr
  | stores a v _ => rfl

/-- Every effect keeps the invariant. -/
theorem Effect.inv {s t : State} {r : Request} (h : Effect s r t) (hs : s.Inv) : t.Inv := by
  obtain ⟨hnibble, hmem, hparams, hfields⟩ := hs
  cases h with
  | answers u v _ hu hf =>
    exact ⟨hu.regs ▸ hnibble, hu.mem ▸ hmem, hu.params ▸ hparams, hf.trans hfields⟩
  | traces u line _ hu => exact ⟨hu.regs ▸ hnibble, hu.mem ▸ hmem, hu.params ▸ hparams, rfl⟩
  | writes f _ hf => exact ⟨hf hnibble, hmem, hparams, hfields⟩
  | stores a v _ => exact ⟨hnibble, Memory.wf_set s.mem a v hmem, hparams, hfields⟩

end Sys2Proof.Machine
end

section
/-! PROOFS. The statements of the register file's family (10_state.md): the reset values, the reach of a write, and
what every step keeps. -/

namespace Sys2Proof.Machine

/-! ## Reset -/

/-- Every flag is clear at reset (R34): F is zero. -/
theorem RegFile.getFlag_reset (bc : Word) (f : Flag) : (RegFile.reset bc).getFlag f = false := by
  change (0x1100 : Word).getLsbD f.pos = false
  cases f <;> decide

/-- The default parameters are legal, whatever the implementation fixed (R312, R405). -/
theorem Params.default_wf : Params.default.wf = true := by
  have hgutter : Config.gutter.toList.all (fun c => c ≠ '\n') = true := by simp [Config.gutter]
  have hstatus : Config.fatalExitStatus ≠ 0 := by
    unfold Config.fatalExitStatus
    split
    · decide
    · assumption
  simpa [Params.wf, Params.default, hstatus] using hgutter

/-- Settles O1: the fields of `RegFile.reset` by definition, the flags by `RegFile.getFlag_reset`. -/
theorem resetRegisterValues : Obligations.ResetRegisterValues :=
  ⟨fun bc => ⟨rfl, rfl, rfl, rfl, rfl, rfl, rfl, RegFile.getFlag_reset bc⟩, Config.bcReset, rfl⟩

/-- Settles O3, clause by clause: only the parameters' legality rests on choices left open. -/
theorem resetMeetsTheInvariant : Obligations.ResetMeetsTheInvariant :=
  ⟨RegFile.reset_lowNibble _, State.reset_mem_wf, Params.default_wf, rfl⟩

/-! ## The reach of a write -/

/-- Settles O35: each write is one store, of the half it names beside the old other half. -/
theorem writesTouchOnlyTheirHalfOrPair : Obligations.WritesTouchOnlyTheirHalfOrPair := by
  intro r p q v b
  have hother (hq : q ≠ p) : (r.set16 p v).get16 q = r.get16 q ∧ (r.setHigh p b).get16 q = r.get16 q ∧
      (r.setLow p b).get16 q = r.get16 q :=
    ⟨r.get16_set16_other p q v hq, r.get16_setHigh_other p q b hq, r.get16_setLow_other p q b hq⟩
  exact ⟨hother, r.getLow_setHigh p b, r.getHigh_setLow p b⟩

/-! ## Every step -/

/-- Settles O57: by the effect of the request, which is no write. -/
theorem onlyWriteRequestsChangeRegisters : Obligations.OnlyWriteRequestsChangeRegisters := by
  intro s t r rest hr hstep
  rw [step_of_request] at hstep
  exact (effect_of_serve hstep).regs_eq hr

/-- Settles O55: an idle step changes nothing, and the effect of any request keeps the invariant. -/
theorem stepKeepsTheInvariant : Obligations.StepKeepsTheInvariant := by
  intro s t hs hstep
  rcases step_cases hstep with ⟨-, rfl⟩ | ⟨r, rest, -, heffect⟩
  · exact hs
  · exact heffect.inv hs

end Sys2Proof.Machine
end

section
/-! PROOFS. The statements of the memory family (20_memory.md): a trace call runs what the bus answers, the engine's
store is seen by the next read, and nothing else writes memory. -/

namespace Sys2Proof.Machine

/-! ## What the bus answers -/

/-- `bytes` begin with the instruction `i`, and `rest` stands after it: one case for each way to end the decode (R71,
R77, R84). -/
inductive Decodes : List Byte → Instr → List Byte → Prop where
  /-- The stand-alone marker (R162). -/
  | marker : Decodes [0xCB] .prefixCb []
  | secondary (b : Byte) (rest : List Byte) : Decodes (0xCB :: b :: rest) (secondaryInstr b) rest
  | plain (b : Byte) (i : Instr) (rest : List Byte) (hb : b ≠ 0xCB) (he : primaryEntry b = .plain i) :
      Decodes (b :: rest) i rest
  | imm8 (b v : Byte) (mk : Byte → Instr) (rest : List Byte) (hb : b ≠ 0xCB) (he : primaryEntry b = .imm8 mk) :
      Decodes (b :: v :: rest) (mk v) rest
  | imm16 (b lo hi : Byte) (mk : Word → Instr) (rest : List Byte) (hb : b ≠ 0xCB) (he : primaryEntry b = .imm16 mk) :
      Decodes (b :: lo :: hi :: rest) (mk (joinBytes hi lo)) rest
  | addr16 (b lo hi : Byte) (mk : Word → Instr) (rest : List Byte) (hb : b ≠ 0xCB)
      (he : primaryEntry b = .addr16 mk) : Decodes (b :: lo :: hi :: rest) (mk (joinBytes hi lo)) rest
  | rel8 (b v : Byte) (mk : Int → Instr) (rest : List Byte) (hb : b ≠ 0xCB) (he : primaryEntry b = .rel8 mk) :
      Decodes (b :: v :: rest) (mk (signExtend8 v)) rest

/-- Whatever `decode` answers, it does so in one of the ways. -/
theorem decodes_of_decode {bytes rest : List Byte} {i : Instr} (h : decode bytes = .ok (i, rest)) :
    Decodes bytes i rest := by
  unfold decode at h
  split at h
  next => cases h
  next b bs =>
    split at h
    next hb =>
      subst hb
      split at h <;> cases h
      · exact .marker
      · exact .secondary _ _
    next hb =>
      split at h <;> cases h
      next he => exact .plain _ _ _ hb he
      next he => exact .imm8 _ _ _ _ hb he
      next he => exact .imm16 _ _ _ _ _ hb he
      next he => exact .addr16 _ _ _ _ _ hb he
      next he => exact .rel8 _ _ _ _ hb he

/-- The first byte of an instruction tells its length, but for the stand-alone marker (R73, R77). -/
theorem Decodes.length_eq {b : Byte} {bs rest : List Byte} {i : Instr} (h : Decodes (b :: bs) i rest)
    (hne : b :: bs ≠ [0xCB]) : (b :: bs).length = instrLength b + rest.length := by
  cases h with
  | marker => exact absurd rfl hne
  | secondary b rest =>
    simp only [instrLength, if_pos, List.length_cons]
    omega
  | plain _ _ _ hb he | imm8 _ _ _ _ hb he | imm16 _ _ _ _ _ hb he | addr16 _ _ _ _ _ hb he
  | rel8 _ _ _ _ hb he =>
    simp only [instrLength, if_neg hb, he, Entry.shape, Shape.operandBytes, List.length_cons]
    omega

/-- After a dictated opcode byte other than 0xCB, the operand of its entry is read (R302). -/
theorem fetchInstr_dictated_primary (s : State) {b : Byte} (l : List Byte) {e : Entry} (hb : b ≠ 0xCB)
    (he : primaryEntry b = e) : fetchInstr { s with answers := b :: l } =
      readOperandOf e (State.afterRead { s with answers := b :: l } s.regs.pc) := by
  subst he
  exact fetchInstr_primary { s with answers := b :: l } hb

/-- The instruction read is the one that the dictated bytes encode (R302, R303). -/
theorem fetchInstr_dictated_fst {bytes rest : List Byte} {i : Instr} (h : Decodes bytes i rest)
    (hne : bytes ≠ [0xCB]) (s : State) (tail : List Byte) :
    (fetchInstr { s with answers := bytes ++ tail }).1 = i := by
  cases h with
  | marker => exact absurd rfl hne
  | secondary b rest => rfl
  | plain _ _ _ hb he | imm8 _ _ _ _ hb he | imm16 _ _ _ _ _ hb he | addr16 _ _ _ _ _ hb he
  | rel8 _ _ _ _ hb he => exact congrArg Prod.fst (fetchInstr_dictated_primary s _ hb he)

/-- Where the bus is dictated the bytes of an instruction, that instruction is read, with one read for each of its
bytes (R64). -/
theorem fetchInstr_dictated {bytes : List Byte} {i : Instr} (h : Decodes bytes i []) (hne : bytes ≠ [0xCB])
    (s : State) (tail : List Byte) : fetchInstr { s with answers := bytes ++ tail } =
      (i, afterReads { s with answers := bytes ++ tail } (addressesFrom s.regs.pc bytes.length)) := by
  have hfst := fetchInstr_dictated_fst h hne s tail
  obtain ⟨b, bs, rfl⟩ : ∃ b bs, bytes = b :: bs := by cases h <;> exact ⟨_, _, rfl⟩
  have hlength : (b :: bs).length = instrLength b := h.length_eq hne
  rw [hlength]
  exact Prod.ext hfst (fetchInstr_snd _)

/-- Settles O6: the fields take none of the dictated bytes, and the fetch takes exactly those of the instruction. -/
theorem stepRunsTheInstructionTheBusAnswers : Obligations.StepRunsTheInstructionTheBusAnswers := by
  intro s a f c cycles rest bytes tail i hdecode hne
  obtain ⟨fs, hgather⟩ :=
    gatherFields_noSnapshots a f c cycles { s with requests := rest, answers := bytes ++ tail }
  have hfetch := fetchInstr_dictated (decodes_of_decode hdecode) hne { s with requests := rest, fields := fs } tail
  calc step { s with
          requests := .formatLine ⟨a, f, c, false, false⟩ cycles :: rest, answers := bytes ++ tail }
      = opFormatLine ⟨a, f, c, false, false⟩ cycles { s with requests := rest, answers := bytes ++ tail } :=
        step_of_request { s with answers := bytes ++ tail } _ rest
    _ = _ := by rw [opFormatLine_eq, hgather, hfetch]

/-! ## Writes of memory -/

/-- Settles O29: the stored byte is listed, and with nothing dictated the bus answers what is listed. -/
theorem engineStoreIsSeenByTheNextRead : Obligations.EngineStoreIsSeenByTheNextRead := by
  intro s a v rest
  have hanswer : State.busAnswer { s with requests := rest, answers := [], mem := s.mem.set a.toNat v } a = v :=
    State.busAnswer_listed _ a v rfl (Memory.get?_set_same s.mem a.toNat v)
  exact ⟨_, rfl, hanswer, fun b hb => Memory.get?_set_other s.mem a.toNat b v hb, rfl, rfl, rfl⟩

/-- Only the engine's store changes memory (R51). -/
theorem Effect.mem_eq {s t : State} {r : Request} (h : Effect s r t) (hr : r.ofBlock = true) : t.mem = s.mem := by
  cases h with
  | answers u v _ hu _ => exact hu.mem
  | traces u line _ hu => exact hu.mem
  | writes f _ _ => rfl
  | stores a v hstore => simp [hstore, Request.ofBlock] at hr

/-- Settles O58: by the effect of the request, which is no store. -/
theorem noBlockOperationWritesMemory : Obligations.NoBlockOperationWritesMemory := by
  intro s t r rest hr hstep
  rw [step_of_request] at hstep
  have hmem : t.mem = s.mem := (effect_of_serve hstep).mem_eq hr
  exact ⟨hmem, fun a => congrArg (Memory.get? · a) hmem⟩

end Sys2Proof.Machine
end

section
/-! PROOFS. The statements of the encoding family (30_encoding.md): decoder and encoder are inverse to each other, the
first byte tells the length, and the decoder's tables agree with the templates. -/

namespace Sys2Proof

/-! ## Entries and instructions, one by one -/

/-- The instruction that an entry makes from the operand its shape reads: `v`, `w` or `d`. -/
def Entry.instr (v : Byte) (w : Word) (d : Int) : Entry → Instr
  | .plain i => i
  | .imm8 mk => mk v
  | .imm16 mk => mk w
  | .addr16 mk => mk w
  | .rel8 mk => mk d

/-- The bytes of that operand, low byte first (R71, R72). -/
def Entry.operand (v : Byte) (w : Word) (d : Int) : Entry → List Byte
  | .plain _ => []
  | .imm8 _ => [v]
  | .imm16 _ => [lowByte w, highByte w]
  | .addr16 _ => [lowByte w, highByte w]
  | .rel8 _ => [i8Byte d]

/-- Whether that operand has a byte of its own: only a signed one can be out of range (R144). -/
def Entry.inRange (d : Int) : Entry → Bool
  | .rel8 _ => inI8 d
  | .plain _ | .imm8 _ | .imm16 _ | .addr16 _ => true

/-- The encoder and the well-formedness check read every entry of the primary table as the decoder does. -/
theorem primaryEntry_encoding (b v : Byte) (w : Word) (d : Int) :
    encode ((primaryEntry b).instr v w d) = b :: (primaryEntry b).operand v w d ∧
      ((primaryEntry b).instr v w d).wellFormed = (primaryEntry b).inRange d := by
  obtain ⟨n, hn, rfl⟩ : ∃ n < 256, b = BitVec.ofNat 8 n := ⟨b.toNat, b.isLt, by simp⟩
  interval_cases n <;> exact ⟨rfl, rfl⟩

theorem encode_instr_of_primaryEntry {b : Byte} {e : Entry} (he : primaryEntry b = e) (v : Byte) (w : Word)
    (d : Int) : encode (e.instr v w d) = b :: e.operand v w d :=
  he ▸ (primaryEntry_encoding b v w d).1

theorem wellFormed_instr_of_primaryEntry {b : Byte} {e : Entry} (he : primaryEntry b = e) (v : Byte) (w : Word)
    (d : Int) : (e.instr v w d).wellFormed = e.inRange d :=
  he ▸ (primaryEntry_encoding b v w d).2

/-- No instruction of the secondary table has an operand to check (R180). -/
theorem wellFormed_secondaryInstr (b : Byte) : (secondaryInstr b).wellFormed = true := by
  revert b
  decide

/-- Every instruction has its round trip: only a wide or a signed operand does not come back by computation alone. -/
theorem roundTrip (i : Instr) : Laws.RoundTrip.Statement i := by
  cases i with
  | ldBcD16 v => exact Laws.RoundTrip.ldBcD16 v
  | ldDeD16 v => exact Laws.RoundTrip.ldDeD16 v
  | ldHlD16 v => exact Laws.RoundTrip.ldHlD16 v
  | ldSpD16 v => exact Laws.RoundTrip.ldSpD16 v
  | ldAtA16Sp a => exact Laws.RoundTrip.ldAtA16Sp a
  | ldAtA16A a => exact Laws.RoundTrip.ldAtA16A a
  | ldAAtA16 a => exact Laws.RoundTrip.ldAAtA16 a
  | jpNzA16 a => exact Laws.RoundTrip.jpNzA16 a
  | jpA16 a => exact Laws.RoundTrip.jpA16 a
  | jpZA16 a => exact Laws.RoundTrip.jpZA16 a
  | jpNcA16 a => exact Laws.RoundTrip.jpNcA16 a
  | jpCA16 a => exact Laws.RoundTrip.jpCA16 a
  | callNzA16 a => exact Laws.RoundTrip.callNzA16 a
  | callZA16 a => exact Laws.RoundTrip.callZA16 a
  | callA16 a => exact Laws.RoundTrip.callA16 a
  | callNcA16 a => exact Laws.RoundTrip.callNcA16 a
  | callCA16 a => exact Laws.RoundTrip.callCA16 a
  | jrR8 d => exact Laws.RoundTrip.jrR8 d
  | jrNzR8 d => exact Laws.RoundTrip.jrNzR8 d
  | jrZR8 d => exact Laws.RoundTrip.jrZR8 d
  | jrNcR8 d => exact Laws.RoundTrip.jrNcR8 d
  | jrCR8 d => exact Laws.RoundTrip.jrCR8 d
  | addSpR8 d => exact Laws.RoundTrip.addSpR8 d
  | ldHlSpPlusR8 d => exact Laws.RoundTrip.ldHlSpPlusR8 d
  | _ => exact fun _ => rfl

end Sys2Proof

open Sys2Proof.Claims

namespace Sys2Proof.Machine

/-! ## Every way to decode is taken -/

/-- The converse of `decodes_of_decode`. -/
theorem Decodes.decode_eq {bytes rest : List Byte} {i : Instr} (h : Decodes bytes i rest) :
    decode bytes = .ok (i, rest) := by
  cases h with
  | marker | secondary _ _ => rfl
  | plain _ _ _ hb he | imm8 _ _ _ _ hb he | imm16 _ _ _ _ _ hb he | addr16 _ _ _ _ _ hb he
  | rel8 _ _ _ _ hb he => simp only [decode, if_neg hb, he]

/-- Bytes that follow an instruction do not change it, but for the stand-alone marker (R77, R162). -/
theorem Decodes.append {bytes tail : List Byte} {i : Instr} (h : Decodes bytes i tail) (hne : bytes ≠ [0xCB])
    (rest : List Byte) : Decodes (bytes ++ rest) i (tail ++ rest) := by
  cases h with
  | marker => exact absurd rfl hne
  | secondary b _ => exact .secondary b _
  | plain _ _ _ hb he => exact .plain _ _ _ hb he
  | imm8 _ _ _ _ hb he => exact .imm8 _ _ _ _ hb he
  | imm16 _ _ _ _ _ hb he => exact .imm16 _ _ _ _ _ hb he
  | addr16 _ _ _ _ _ hb he => exact .addr16 _ _ _ _ _ hb he
  | rel8 _ _ _ _ hb he => exact .rel8 _ _ _ _ hb he

/-- Three bytes are enough for the operand of every entry (R72). -/
theorem exists_decodes_threeBytes (b0 b1 b2 : Byte) (rest : List Byte) :
    ∃ i tail, Decodes (b0 :: b1 :: b2 :: rest) i tail := by
  by_cases hb : b0 = 0xCB
  · subst hb
    exact ⟨_, _, .secondary b1 _⟩
  · cases he : primaryEntry b0 with
    | plain i => exact ⟨_, _, .plain _ _ _ hb he⟩
    | imm8 mk => exact ⟨_, _, .imm8 _ _ _ _ hb he⟩
    | imm16 mk => exact ⟨_, _, .imm16 _ _ _ _ _ hb he⟩
    | addr16 mk => exact ⟨_, _, .addr16 _ _ _ _ _ hb he⟩
    | rel8 mk => exact ⟨_, _, .rel8 _ _ _ _ hb he⟩

/-- Settles O52: three bytes always hold an instruction, and `decode` finds it. -/
theorem anyThreeBytesDecode : Obligations.AnyThreeBytesDecode := by
  intro b0 b1 b2 rest
  obtain ⟨i, tail, h⟩ := exists_decodes_threeBytes b0 b1 b2 rest
  exact ⟨i, tail, h.decode_eq⟩

/-! ## Encode after decode -/

/-- A decoded instruction is well-formed: a byte read as a signed operand is in its range (R144). -/
theorem Decodes.wellFormed {bytes rest : List Byte} {i : Instr} (h : Decodes bytes i rest) :
    i.wellFormed = true := by
  cases h with
  | marker => rfl
  | secondary b _ => exact wellFormed_secondaryInstr b
  | plain _ _ _ _ he => exact wellFormed_instr_of_primaryEntry he 0 0 0
  | imm8 _ v _ _ _ he => exact wellFormed_instr_of_primaryEntry he v 0 0
  | imm16 _ lo hi _ _ _ he | addr16 _ lo hi _ _ _ he =>
    exact wellFormed_instr_of_primaryEntry he 0 (joinBytes hi lo) 0
  | rel8 _ v _ _ _ he => exact (wellFormed_instr_of_primaryEntry he 0 0 (signExtend8 v)).trans (signExtend8_inI8 v)

/-- A decoded instruction encodes to the bytes it took. -/
theorem Decodes.encode_append {bytes rest : List Byte} {i : Instr} (h : Decodes bytes i rest) :
    encode i ++ rest = bytes := by
  cases h with
  | marker => rfl
  | secondary b rest => exact congrArg (· ++ rest) (encode_secondaryInstr b)
  | plain _ _ rest _ he => exact congrArg (· ++ rest) (encode_instr_of_primaryEntry he 0 0 0)
  | imm8 _ v _ rest _ he => exact congrArg (· ++ rest) (encode_instr_of_primaryEntry he v 0 0)
  | imm16 _ lo hi _ rest _ he | addr16 _ lo hi _ rest _ he =>
    simpa [Entry.instr, Entry.operand] using
      congrArg (· ++ rest) (encode_instr_of_primaryEntry he 0 (joinBytes hi lo) 0)
  | rel8 _ v _ rest _ he =>
    simpa [Entry.instr, Entry.operand] using
      congrArg (· ++ rest) (encode_instr_of_primaryEntry he 0 0 (signExtend8 v))

/-- Settles O51, for each way in which bytes decode. -/
theorem encodeInvertsDecode : Obligations.EncodeInvertsDecode := by
  intro bytes rest i hdecode
  have h := decodes_of_decode hdecode
  exact ⟨h.wellFormed, h.encode_append⟩

/-- Settles O53: the first byte tells how many bytes were taken, and these are the encoding. -/
theorem firstByteGivesTheLength : Obligations.FirstByteGivesTheLength := by
  intro b0 b1 rest tail i hdecode
  have h := decodes_of_decode hdecode
  have htaken : (b0 :: b1 :: rest).length = instrLength b0 + tail.length := h.length_eq (by simp)
  have hencode : (encode i).length + tail.length = (b0 :: b1 :: rest).length := by
    rw [← List.length_append, h.encode_append]
  exact ⟨htaken, by omega⟩

/-! ## Decode after encode -/

/-- Only the marker is encoded as the escape byte alone (R162). -/
theorem encode_ne_escape {i : Instr} (hwf : i.wellFormed = true) (hi : i ≠ .prefixCb) : encode i ≠ [0xCB] := by
  intro henc
  have hdecode : decode [0xCB] = .ok (i, []) := henc ▸ roundTrip i hwf
  have hmarker : decode [0xCB] = .ok (.prefixCb, []) := rfl
  rw [hmarker] at hdecode
  cases hdecode
  exact hi rfl

/-- Settles O50: the round trip of the instruction alone, which bytes after it do not change. -/
theorem decodeInvertsEncode : Obligations.DecodeInvertsEncode := by
  intro i rest hwf hmarker
  by_cases hi : i = .prefixCb
  · obtain rfl := hmarker hi
    simpa using roundTrip i hwf
  · exact ((decodes_of_decode (roundTrip i hwf)).append (encode_ne_escape hwf hi) rest).decode_eq

/-! ## The decoder's tables and the templates -/

theorem shape_primaryEntry (b : Byte) : (primaryEntry b).shape = (decodePrimary b).shape := by
  revert b
  decide

theorem shape_decodeSecondary (b : Byte) : (decodeSecondary b).shape = .none := by
  revert b
  decide

/-- Settles O48, table by table. -/
theorem decoderAgreesWithTheTemplates : Obligations.DecoderAgreesWithTheTemplates := fun b =>
  ⟨shape_primaryEntry b, shape_decodeSecondary b, encode_secondaryInstr b⟩

/-- The LD block: 0x76, where both operands would be `(HL)`, is HALT. -/
theorem decodePrimary_load (b : Byte) : fieldX b = 1 → b ≠ 0x76 →
    decodePrimary b = ⟨"LD " ++ reg8.getD (fieldY b) "" ++ ", " ++ reg8.getD (fieldZ b) "", .none⟩ := by
  revert b
  decide

/-- The ALU block. -/
theorem decodePrimary_alu (b : Byte) : fieldX b = 2 →
    decodePrimary b = ⟨aluOps.getD (fieldY b) "" ++ reg8.getD (fieldZ b) "", .none⟩ := by
  revert b
  decide

/-- Settles O46, block by block. -/
theorem primaryBlocksAreRegular : Obligations.PrimaryBlocksAreRegular := fun b =>
  ⟨decodePrimary_load b, decodePrimary_alu b⟩

end Sys2Proof.Machine
end

section
/-! PROOFS. The statements of the register access family (40_register_access.md): what each read and write of a pair
gives and does, and that nothing but its own read depends on `running`. -/

open Sys2Proof.Claims

namespace Sys2Proof

/-! ## The halves of a word as bit ranges (R21) -/

theorem highByte_eq_extractLsb' (v : Word) : highByte v = v.extractLsb' 8 8 :=
  BitVec.eq_of_toNat_eq (by simp [highByte, Nat.shiftRight_eq_div_pow])

theorem lowByte_eq_extractLsb' (v : Word) : lowByte v = v.extractLsb' 0 8 :=
  BitVec.eq_of_toNat_eq (by simp [lowByte])

theorem joinBytes_eq_append (h l : Byte) : joinBytes h l = h ++ l := by
  apply BitVec.eq_of_toNat_eq
  rw [joinBytes_toNat, BitVec.toNat_append, ← Nat.shiftLeft_add_eq_or_of_lt l.isLt, Nat.shiftLeft_eq]

end Sys2Proof

namespace Sys2Proof.Machine

/-! ## The register file in the statements' terms -/

theorem RegFile.get16_eq_pairOf (r : RegFile) (p : Pair) : r.get16 p = pairOf r p := by
  cases p <;> rfl

theorem RegFile.getHigh_eq_extractLsb' (r : RegFile) (p : Pair) : r.getHigh p = (pairOf r p).extractLsb' 8 8 := by
  rw [RegFile.getHigh, highByte_eq_extractLsb', RegFile.get16_eq_pairOf]

theorem RegFile.getLow_eq_extractLsb' (r : RegFile) (p : Pair) : r.getLow p = (pairOf r p).extractLsb' 0 8 := by
  rw [RegFile.getLow, lowByte_eq_extractLsb', RegFile.get16_eq_pairOf]

theorem RegFile.store_eq_withPair (r : RegFile) (p : Pair) (v : Word) : r.store p v = withPair r p v := by
  cases p <;> rfl

theorem lowStored_eq_ite (p : Pair) (v : Byte) : lowStored p v = if p = .af then v &&& 0xF0 else v := by
  cases p <;> rfl

theorem RegFile.set16_eq_withPair (r : RegFile) (p : Pair) (v : Word) :
    r.set16 p v = withPair r p (if p = .af then v &&& 0xFFF0 else v) := by
  cases p <;> rfl

theorem RegFile.setHigh_eq_withPair (r : RegFile) (p : Pair) (v : Byte) :
    r.setHigh p v = withPair r p (v ++ (pairOf r p).extractLsb' 0 8) := by
  rw [RegFile.setHigh, store_eq_withPair, joinBytes_eq_append, lowByte_eq_extractLsb', get16_eq_pairOf]

theorem RegFile.setLow_eq_withPair (r : RegFile) (p : Pair) (v : Byte) :
    r.setLow p v =
      withPair r p ((pairOf r p).extractLsb' 8 8 ++ (if p = .af then v &&& 0xF0 else v)) := by
  rw [RegFile.setLow, store_eq_withPair, joinBytes_eq_append, highByte_eq_extractLsb', get16_eq_pairOf,
    lowStored_eq_ite]

/-- The view law: the two halves make up the pair (R21). -/
theorem RegFile.getHigh_getLow_toNat (r : RegFile) (p : Pair) :
    (r.getHigh p).toNat * 256 + (r.getLow p).toNat = (r.get16 p).toNat := by
  rw [← joinBytes_toNat, RegFile.getHigh, RegFile.getLow, joinBytes_high_low]

/-! ## The register operations -/

/-- Settles O30: each read returns its view, and the views join to the pair. -/
theorem readsOfAPairReturnItsViews : Obligations.ReadsOfAPairReturnItsViews := by
  intro s p rest
  rw [← RegFile.getHigh_eq_extractLsb', ← RegFile.getLow_eq_extractLsb', ← RegFile.get16_eq_pairOf]
  exact ⟨step_of_request s (.get16 p) rest, step_of_request s (.getHigh p) rest, step_of_request s (.getLow p) rest,
    s.regs.getHigh_getLow_toNat p⟩

/-- Settles O31: the request is served by `RegFile.set16`. -/
theorem set16WritesThePair : Obligations.Set16WritesThePair := by
  intro s p v rest
  rw [← RegFile.set16_eq_withPair]
  exact step_of_request s (.set16 p v) rest

/-- Settles O32: the request is served by `RegFile.setHigh`. -/
theorem setHighWritesOnlyTheHighHalf : Obligations.SetHighWritesOnlyTheHighHalf := by
  intro s p v rest
  rw [← RegFile.setHigh_eq_withPair]
  exact step_of_request s (.setHigh p v) rest

/-- Settles O33: the request is served by `RegFile.setLow`. -/
theorem setLowWritesOnlyTheLowHalf : Obligations.SetLowWritesOnlyTheLowHalf := by
  intro s p v rest
  rw [← RegFile.setLow_eq_withPair]
  exact step_of_request s (.setLow p v) rest

/-- Settles O34: both requests are served by definition. -/
theorem runningIsStoredAndReadBack : Obligations.RunningIsStoredAndReadBack := fun s v rest =>
  ⟨step_of_request s (.setRunning v) rest, step_of_request s .getRunning rest⟩

/-! ## Two runs that differ in `running` alone (R107) -/

/-- The same state with `running` set to `b`. -/
def State.withRunning (s : State) (b : Bool) : State := s.setRegs { s.regs with running := b }

/-- The operation neither reads nor writes `running`: what it does to the rest is the same for either value. -/
def IgnoresRunning (f : State → State) : Prop := ∀ s b, f (s.withRunning b) = (f s).withRunning b

theorem IgnoresRunning.comp {f g : State → State} (hg : IgnoresRunning g) (hf : IgnoresRunning f) :
    IgnoresRunning (g ∘ f) := fun s b => (congrArg g (hf s b)).trans (hg (f s) b)

/-- A part of a trace call that a toggle turns on or off (R301). -/
theorem IgnoresRunning.ite (c : Prop) [Decidable c] {f : State → State} (hf : IgnoresRunning f) :
    IgnoresRunning (fun s => if c then f s else s) := by
  intro s b
  by_cases h : c
  · simp only [if_pos h, hf s b]
  · simp only [if_neg h]

theorem foldl_addSnapshot_ignoresRunning (l : List Word) : IgnoresRunning (l.foldl State.addSnapshot) := by
  intro s b
  induction l generalizing s with
  | nil => rfl
  | cons a l ih => exact ih (s.addSnapshot a)

/-- No diagnostic field shows `running` (R305 to R309). -/
theorem gatherFields_ignoresRunning (o : TraceOptions) (cycles : Cycles) :
    IgnoresRunning (gatherFields o cycles) := by
  have haddress : IgnoresRunning (addressField o) := .ite _ fun _ _ => rfl
  have hflags : IgnoresRunning (flagsField o) := .ite _ fun _ _ => rfl
  have hcycles : IgnoresRunning (cyclesField o cycles) := .ite _ fun _ _ => rfl
  have hjoypad : IgnoresRunning (joypadField o) := .ite _ fun _ _ => rfl
  have htimers : IgnoresRunning (timerFields o) :=
    .ite _ fun s b => foldl_addSnapshot_ignoresRunning s.params.timerAddrs s b
  have hbegin : IgnoresRunning State.beginFields := fun _ _ => rfl
  exact htimers.comp (hjoypad.comp (hcycles.comp (hflags.comp (haddress.comp hbegin))))

theorem readOperandOf_withRunning (e : Entry) (s : State) (b : Bool) :
    readOperandOf e (s.withRunning b) = ((readOperandOf e s).1, (readOperandOf e s).2.withRunning b) := by
  cases e <;> rfl

/-- The instruction at PC and the reads that fetch it do not depend on `running`. -/
theorem fetchInstr_withRunning (s : State) (b : Bool) :
    fetchInstr (s.withRunning b) = ((fetchInstr s).1, (fetchInstr s).2.withRunning b) := by
  by_cases h : s.busAnswer s.regs.pc = 0xCB
  · rw [fetchInstr_escape s h, fetchInstr_escape (s.withRunning b) h]
    rfl
  · rw [fetchInstr_primary s h, fetchInstr_primary (s.withRunning b) h]
    exact readOperandOf_withRunning _ (s.afterRead s.regs.pc) b

/-- The body of an instruction's line depends on the instruction alone, in whatever state it is traced (R3, R311). -/
theorem exec_body_of_instr (i : Instr) (hi : i ≠ .prefixCb) :
    ∃ body, ∀ s, exec i s = .next (s.emitLine (traceLine s body)) := by
  cases i
  case prefixCb => exact absurd rfl hi
  all_goals exact ⟨_, fun _ => rfl⟩

theorem opFormatLine_withRunning {o : TraceOptions} {cycles : Cycles} {s t : State}
    (h : opFormatLine o cycles s = .next t) (b : Bool) :
    opFormatLine o cycles (s.withRunning b) = .next (t.withRunning b) := by
  obtain ⟨body, hbody⟩ := exec_body_of_instr _ (fetchInstr_ne_prefixCb (gatherFields o cycles s))
  rw [opFormatLine_eq, hbody] at h
  rw [opFormatLine_eq, gatherFields_ignoresRunning, fetchInstr_withRunning, hbody, ← Host.Outcome.next.inj h]
  rfl

/-- Every request but the read of `running` is served alike whatever `running` is: only `running` itself can differ
afterwards, and after `setRunning` and construction not even that. -/
theorem serve_withRunning {r : Request} {s t : State} (hr : r ≠ .getRunning) (h : serve r s = .next t) (b : Bool) :
    ∃ c, serve r (s.withRunning b) = .next (t.withRunning c) := by
  cases r with
  | getRunning => exact absurd rfl hr
  | formatLine o cycles => exact ⟨b, opFormatLine_withRunning h b⟩
  | setRunning | construct =>
    cases h
    exact ⟨_, rfl⟩
  | get16 p | getHigh p | getLow p =>
    cases h
    exact ⟨b, by cases p <;> rfl⟩
  | set16 p v | setHigh p v | setLow p v =>
    cases h
    exact ⟨b, by cases p <;> rfl⟩
  | setFlag | getFlag | readImmediate16 | readImmediate8 | readAddress16 | readSignedRelative8 | renderOperand
  | decodePrimary | decodeSecondary | busStore =>
    cases h
    exact ⟨b, rfl⟩

/-- Settles O60: the two runs serve the same request in states that differ in `running` alone. -/
theorem runningHasNoEffect : Obligations.RunningHasNoEffect := by
  intro s t r rest b hr hstep
  rw [step_of_request] at hstep
  obtain ⟨c, hc⟩ := serve_withRunning hr hstep b
  exact ⟨t.withRunning c, hc, rfl⟩

end Sys2Proof.Machine
end

section
/-! PROOFS. The statements of the flags family (41_flags_access.md): a flag is one bit of AF, which `setFlag` writes
alone and `getFlag` returns, and the four of them make up F. -/

open Sys2Proof.Claims

namespace Sys2Proof

/-! ## The bits of a word and of its halves (R21) -/

theorem getLsbD_highByte (v : Word) {k : Nat} (hk : k < 8) : (highByte v).getLsbD k = v.getLsbD (8 + k) := by
  simp [highByte_eq_extractLsb', hk]

theorem getLsbD_lowByte (v : Word) {k : Nat} (hk : k < 8) : (lowByte v).getLsbD k = v.getLsbD k := by
  simp [lowByte_eq_extractLsb', hk]

theorem getLsbD_joinBytes (h l : Byte) (k : Nat) :
    (joinBytes h l).getLsbD k = if k < 8 then l.getLsbD k else h.getLsbD (k - 8) := by
  rw [joinBytes_eq_append, BitVec.getLsbD_append]

/-- A bit of a byte as a digit of its value. -/
theorem toNat_getLsbD (b : Byte) (k : Nat) : (b.getLsbD k).toNat = b.toNat / 2 ^ k % 2 := Nat.toNat_testBit _ k

end Sys2Proof

namespace Sys2Proof.Machine

/-! ## One flag -/

theorem Flag.pos_eq_flagBit (f : Flag) : f.pos = flagBit f := by
  cases f <;> rfl

/-- Every flag lies in F, the low byte of AF (R120). -/
theorem flagBit_lt (f : Flag) : flagBit f < 8 := by
  cases f <;> decide

theorem RegFile.getFlag_eq_getLsbD (r : RegFile) (f : Flag) : r.getFlag f = r.af.getLsbD (flagBit f) := by
  rw [RegFile.getFlag, Flag.pos_eq_flagBit]

theorem Flag.getLsbD_mask (f : Flag) (k : Nat) : f.mask.getLsbD k = decide (k = flagBit f) := by
  have hmask : f.mask = BitVec.twoPow 8 (flagBit f) := by rw [← Flag.pos_eq_flagBit]; rfl
  simp [hmask, flagBit_lt, eq_comm]

/-- The byte written is the old one but for the flag's bit: the mask clears it and the value sets it (R121). -/
theorem getLsbD_flagByte (f : Flag) (v : Bool) (old : Byte) {k : Nat} (hk : k < 8) :
    (flagByte f v old).getLsbD k = if k = flagBit f then v else old.getLsbD k := by
  have hset : (if v then f.mask else 0).getLsbD k = (v && decide (k = flagBit f)) := by
    cases v <;> simp [Flag.getLsbD_mask]
  rw [flagByte, BitVec.getLsbD_or, BitVec.getLsbD_and, BitVec.getLsbD_not, Flag.getLsbD_mask, hset]
  by_cases h : k = flagBit f <;> simp [h, hk]

/-- The AF that `setFlag` writes, bit by bit: A is joined back as it was, and F changes in the one bit. -/
theorem RegFile.getLsbD_af_setFlag (r : RegFile) (f : Flag) (v : Bool) {k : Nat} (hk : k < 16) :
    (r.setFlag f v).af.getLsbD k = if k = flagBit f then v else r.af.getLsbD k := by
  change (joinBytes (highByte r.af) (flagByte f v (lowByte r.af))).getLsbD k = _
  rw [getLsbD_joinBytes]
  by_cases hlow : k < 8
  · rw [if_pos hlow, getLsbD_flagByte f v _ hlow, getLsbD_lowByte _ hlow]
  · have hk' : k - 8 < 8 := by omega
    have hne : k ≠ flagBit f := by have := flagBit_lt f; omega
    rw [if_neg hlow, if_neg hne, getLsbD_highByte _ hk', Nat.add_sub_cancel' (by omega)]

/-- Settles O36: the request is served by `RegFile.setFlag`, which stores AF alone. -/
theorem setFlagWritesExactlyOneBit : Obligations.SetFlagWritesExactlyOneBit := fun s f v rest =>
  ⟨(s.regs.setFlag f v).af, step_of_request s (.setFlag f v) rest, fun _ hk => s.regs.getLsbD_af_setFlag f v hk⟩

/-- Settles O37: the request is served by `RegFile.getFlag`, which is that bit. -/
theorem getFlagReturnsItsBit : Obligations.GetFlagReturnsItsBit := by
  intro s f rest
  rw [← RegFile.getFlag_eq_getLsbD]
  exact step_of_request s (.getFlag f) rest

/-! ## The four flags together -/

/-- A byte whose low nibble is zero is the sum of its upper four bits. -/
theorem toNat_eq_upperBits {b : Byte} (h : b &&& 0x0F = 0) :
    b.toNat = 128 * (b.getLsbD 7).toNat + 64 * (b.getLsbD 6).toNat + 32 * (b.getLsbD 5).toNat +
      16 * (b.getLsbD 4).toNat := by
  have hnibble : b.toNat % 16 = 0 := by
    rw [← Nat.and_two_pow_sub_one_eq_mod b.toNat 4]
    exact congrArg BitVec.toNat h
  have hlt := b.isLt
  simp only [toNat_getLsbD]
  omega

/-- Settles O38: each flag is its bit of F, and the invariant makes the other four bits zero. -/
theorem lowByteOfAfIsTheFourFlags : Obligations.LowByteOfAfIsTheFourFlags := by
  intro s hinv
  obtain ⟨hnibble, -, -, -⟩ := hinv
  simp only [RegFile.getFlag_lowByte]
  exact toNat_eq_upperBits ((lowNibble_iff _).mp hnibble)

end Sys2Proof.Machine
end

section
/-! PROOFS. The statements of the operand formatter's family (42_operand_formatter.md): what the four readers read, what
the renderer writes, and the line of every instruction with an operand. -/

open Sys2Proof.Claims

namespace Sys2Proof

/-- `sext_8` is the two's-complement reading (R144). -/
theorem signExtend8_eq_toInt (v : Byte) : signExtend8 v = v.toInt := by
  rw [signExtend8, BitVec.toInt_eq_toNat_cond]
  split <;> split <;> omega

end Sys2Proof

namespace Sys2Proof.Machine

/-! ## The readers -/

/-- The word reader in the terms of the reads it makes: the low byte at PC+1, then the high byte at PC+2. -/
theorem readImmediate16_eq_append (s : State) :
    readImmediate16 s =
      ((afterReads s [s.regs.pc + 1]).busAnswer (s.regs.pc + 2) ++ s.busAnswer (s.regs.pc + 1),
        afterReads s [s.regs.pc + 1, s.regs.pc + 2]) := by
  simp only [readImmediate16_eq, joinBytes_eq_append, afterRead_eq, afterReads_append, List.cons_append,
    List.nil_append]

/-- The reader of R143 is served as the reader of R141. -/
theorem opReadAddress16_eq (s : State) : opReadAddress16 s = opReadImmediate16 s := rfl

theorem opReadImmediate16_eq (s : State) :
    opReadImmediate16 s =
      .next ((afterReads s [s.regs.pc + 1, s.regs.pc + 2]).returns
        (.u16 ((afterReads s [s.regs.pc + 1]).busAnswer (s.regs.pc + 2) ++ s.busAnswer (s.regs.pc + 1)))) := by
  simp only [opReadImmediate16, readImmediate16_eq_append]

/-- Settles O39: both requests are served by the one word reader. -/
theorem wordReadersAreLittleEndian : Obligations.WordReadersAreLittleEndian := by
  intro s rest r hr
  rw [step_of_request]
  have hserve : serve r { s with requests := rest } = opReadImmediate16 { s with requests := rest } := by
    rcases hr with rfl | rfl
    · rfl
    · exact opReadAddress16_eq _
  rw [hserve, opReadImmediate16_eq]
  rfl

/-- Settles O40: the request is served by one read of the bus. -/
theorem readImmediate8IsOneReadAfterTheOpcode : Obligations.ReadImmediate8IsOneReadAfterTheOpcode := fun s rest =>
  step_of_request s .readImmediate8 rest

/-- Settles O41: the request is served by one read of the bus, whose answer is sign-extended. -/
theorem readSignedRelative8IsTwosComplement : Obligations.ReadSignedRelative8IsTwosComplement := by
  intro s rest
  rw [← signExtend8_eq_toInt]
  exact step_of_request s .readSignedRelative8 rest

/-! ## Digits -/

/-- The values of the digits that `digits` writes, most significant first: the library's digits of `n`, which come
least significant first and are none for 0. -/
def digitValues (base n : Nat) : List Nat := if n = 0 then [0] else (Nat.digits base n).reverse

@[simp] theorem digitValues_zero (base : Nat) : digitValues base 0 = [0] := rfl

theorem digitValues_of_ne_zero (base : Nat) {n : Nat} (hn : n ≠ 0) :
    digitValues base n = (Nat.digits base n).reverse := if_neg hn

theorem digitValues_of_lt {base n : Nat} (hn : n < base) : digitValues base n = [n] := by
  by_cases h0 : n = 0
  · rw [h0, digitValues_zero]
  · rw [digitValues_of_ne_zero base h0, Nat.digits_of_lt base n h0 hn, List.reverse_singleton]

/-- A number of more than one digit ends with its remainder, as the recursion of `digitsOnto` writes it. -/
theorem digitValues_of_le {base n : Nat} (hbase : 1 < base) (hn : base ≤ n) :
    digitValues base n = digitValues base (n / base) ++ [n % base] := by
  have hn0 : n ≠ 0 := by omega
  have hdiv : n / base ≠ 0 := (Nat.div_pos hn (by omega)).ne'
  rw [digitValues_of_ne_zero base hn0, digitValues_of_ne_zero base hdiv,
    Nat.digits_def' hbase (Nat.pos_of_ne_zero hn0), List.reverse_cons]

theorem digitsOnto_eq_append {base : Nat} (hbase : 1 < base) {fuel n : Nat} (hn : n < fuel) (acc : List Char) :
    digitsOnto base fuel n acc = (digitValues base n).map digitChar ++ acc := by
  induction fuel generalizing n acc with
  | zero => omega
  | succ fuel ih =>
    unfold digitsOnto
    split
    next hlt => simp [digitValues_of_lt hlt]
    next hge =>
      have hless : n / base < n := Nat.div_lt_self (by omega) hbase
      have hshort : n / base < fuel := by omega
      rw [ih hshort, digitValues_of_le hbase (not_lt.mp hge)]
      simp

theorem digits_eq_map {base : Nat} (hbase : 1 < base) (n : Nat) :
    digits base n = (digitValues base n).map digitChar := by
  rw [digits, digitsOnto_eq_append hbase (Nat.lt_succ_self n), List.append_nil]

theorem digitValues_lt {base : Nat} (hbase : 1 < base) (n : Nat) : ∀ d ∈ digitValues base n, d < base := by
  intro d hd
  by_cases h0 : n = 0
  · rw [h0, digitValues_zero, List.mem_singleton] at hd
    omega
  · rw [digitValues_of_ne_zero base h0, List.mem_reverse] at hd
    exact Nat.digits_lt_base hbase hd

/-- `valueOf` is the library's reading of the digits the other way round. -/
theorem valueOf_reverse (base : Nat) (ds : List Nat) : valueOf base ds.reverse = Nat.ofDigits base ds := by
  simp [valueOf, List.foldl_reverse, Nat.ofDigits_eq_foldr, Nat.mul_comm, Nat.add_comm]

theorem valueOf_digitValues (base n : Nat) : valueOf base (digitValues base n) = n := by
  by_cases h0 : n = 0
  · simp [h0, valueOf]
  · rw [digitValues_of_ne_zero base h0, valueOf_reverse, Nat.ofDigits_digits]

/-- No leading zero. -/
theorem head?_digitValues (base : Nat) {n : Nat} (hn : n ≠ 0) : (digitValues base n).head? ≠ some 0 := by
  have hne : Nat.digits base n ≠ [] := Nat.digits_ne_nil_iff_ne_zero.mpr hn
  rw [digitValues_of_ne_zero base hn, List.head?_reverse, List.getLast?_eq_some_getLast hne]
  exact fun h => Nat.getLast_digit_ne_zero base hn (Option.some.inj h)

theorem digitValues_ne_nil (base n : Nat) : digitValues base n ≠ [] := by
  by_cases h0 : n = 0
  · simp [h0]
  · simpa [digitValues_of_ne_zero base h0, Nat.digits_ne_nil_iff_ne_zero] using h0

/-- The characters of R146. -/
theorem digitChar_eq_hexDigit {d : Nat} (hd : d < 16) : digitChar d = "0123456789abcdef".toList.getD d '?' := by
  interval_cases d <;> rfl

/-- The characters of R147. -/
theorem digitChar_eq_decDigit {d : Nat} (hd : d < 10) : digitChar d = "0123456789".toList.getD d '?' := by
  interval_cases d <;> rfl

/-! ## Rendering -/

theorem hex_eq (n : Nat) :
    hex n = "0x" ++ String.ofList ((digitValues 16 n).map (fun d => "0123456789abcdef".toList.getD d '?')) := by
  rw [hex, digits_eq_map (by decide)]
  exact congrArg ("0x" ++ String.ofList ·)
    (List.map_congr_left fun d hd => digitChar_eq_hexDigit (digitValues_lt (by decide) n d hd))

theorem decNat_eq (n : Nat) :
    decNat n = String.ofList ((digitValues 10 n).map (fun d => "0123456789".toList.getD d '?')) := by
  rw [decNat, digits_eq_map (by decide)]
  exact congrArg String.ofList
    (List.map_congr_left fun d hd => digitChar_eq_decDigit (digitValues_lt (by decide) n d hd))

/-- The sign stands before the digits of the magnitude (R147). -/
theorem dec_eq_sign_append (v : Int) : dec v = (if v < 0 then "-" else "") ++ decNat v.natAbs := by
  rw [dec]
  split
  · rfl
  · rw [String.empty_append]

/-- The renderer's request returns the operand's text and does nothing else (R145). -/
theorem step_renderOperand (s : State) (o : Operand) (rest : List Request) :
    step { s with requests := .renderOperand o :: rest } =
      .next { s with requests := rest, ret := .text (renderOperand o) } :=
  step_of_request s (.renderOperand o) rest

/-- Settles O42: the digits are `digitValues 16 n`, and each unsigned operand is rendered by `hex`. -/
theorem hexRendersTheValue : Obligations.HexRendersTheValue := by
  refine ⟨fun n => ⟨digitValues 16 n, hex_eq n, digitValues_lt (by decide) n, valueOf_digitValues 16 n, ?_, ?_⟩,
    rfl, fun _ => rfl, fun _ => rfl, fun _ => rfl, step_renderOperand⟩
  · rintro rfl
    exact digitValues_zero 16
  · exact fun hn => ⟨head?_digitValues 16 hn, digitValues_ne_nil 16 n⟩

/-- Settles O43: the digits are those of the magnitude, and a signed operand is rendered by `dec`. -/
theorem decRendersTheSignedValue : Obligations.DecRendersTheSignedValue := by
  refine ⟨fun v => ⟨digitValues 10 v.natAbs, ?_, digitValues_lt (by decide) _, valueOf_digitValues 10 _, ?_, ?_⟩,
    fun _ => rfl, fun s d => step_renderOperand s (.rel8 d)⟩
  · rw [dec_eq_sign_append, decNat_eq]
  · rintro rfl
    exact digitValues_zero 10
  · exact fun hv => ⟨head?_digitValues 10 (Int.natAbs_ne_zero.mpr hv), digitValues_ne_nil 10 _⟩

/-! ## The line of an instruction with an operand -/

/-- An instruction that traces a primary template with an operand has that template's body as its own (R311). -/
theorem traces_of_tracePrimary {i : Instr} {b : Byte} {o : Operand} (hexec : ∀ s, exec i s = tracePrimary b o s) :
    Traces i (traceBody (decodePrimary b) o) := hexec

/-- Where the shape is not None, the body is the text, one space and the rendered operand (R302, R311). -/
theorem traceBody_of_shape {t : Template} (o : Operand) (h : t.shape ≠ .none) :
    traceBody t o = t.text ++ " " ++ renderOperand o := by
  rw [traceBody]
  split
  next hnone => exact absurd hnone h
  all_goals rfl

/-- The line of a row with an operand, for the opcode `b` whose template the instruction traces: the template's text is
`text` and its shape is the operand's. -/
theorem traces_text_and_operand {i : Instr} {b : Byte} {o : Operand} {text : String} (ho : o.shape ≠ .none)
    (hexec : ∀ s, exec i s = tracePrimary b o s) (htemplate : decodePrimary b = ⟨text, o.shape⟩) :
    Traces i (text ++ " " ++ renderOperand o) := by
  have htraces := traces_of_tracePrimary hexec
  rwa [htemplate, traceBody_of_shape o ho] at htraces

/-! The rows of each shape. A row's meaning is by definition `tracePrimary` of its opcode and operand, and looking that
opcode up in the primary table gives the row's text and shape: these are the two facts each row needs. -/

/-- Settles O13, row by row; `hex` of the byte is what the renderer gives for it, with nothing added (D10). -/
theorem immediate8RowsTraceTextAndOperand : Obligations.Immediate8RowsTraceTextAndOperand := by
  simp only [Obligations.Immediate8RowsTraceTextAndOperand, immediate8Rows, List.Forall]
  and_intros
  all_goals exact fun v => traces_text_and_operand (o := .imm8 v) nofun (fun _ => rfl) rfl

/-- Settles O14, row by row; `hex` of the word is what the renderer gives for it. -/
theorem immediate16RowsTraceTextAndOperand : Obligations.Immediate16RowsTraceTextAndOperand := by
  simp only [Obligations.Immediate16RowsTraceTextAndOperand, immediate16Rows, List.Forall]
  and_intros
  all_goals exact fun v => traces_text_and_operand (o := .imm16 v) nofun (fun _ => rfl) rfl

/-- Settles O15, row by row; the meaning is given the address and reads nothing at it (R143). -/
theorem address16RowsTraceTextAndOperand : Obligations.Address16RowsTraceTextAndOperand := by
  simp only [Obligations.Address16RowsTraceTextAndOperand, address16Rows, List.Forall]
  and_intros
  all_goals exact fun a => traces_text_and_operand (o := .addr16 a) nofun (fun _ => rfl) rfl

/-- Settles O16, row by row; the meaning is given the signed operand and computes no target (R144). -/
theorem relative8RowsTraceTextAndOperand : Obligations.Relative8RowsTraceTextAndOperand := by
  simp only [Obligations.Relative8RowsTraceTextAndOperand, relative8Rows, List.Forall]
  and_intros
  all_goals exact fun d => traces_text_and_operand (o := .rel8 d) nofun (fun _ => rfl) rfl

end Sys2Proof.Machine
end

section
/-! PROOFS. The statements of the primary table's family (43_primary_00_7F.md): a lookup returns its entry and does
nothing else, the placeholder of a text gives its shape, and the undefined bytes are ordinary decode results. -/

open Sys2Proof.Claims

namespace Sys2Proof.Machine

/-! ## Lookups -/

/-- A primary lookup's request returns the entry and does nothing else (R160). -/
theorem step_decodePrimary (s : State) (b : Byte) (rest : List Request) :
    step { s with requests := .decodePrimary b :: rest } =
      .next { s with requests := rest, ret := .template (decodePrimary b) } :=
  step_of_request s (.decodePrimary b) rest

/-- A secondary lookup's request returns the entry and does nothing else (R180). -/
theorem step_decodeSecondary (s : State) (b : Byte) (rest : List Request) :
    step { s with requests := .decodeSecondary b :: rest } =
      .next { s with requests := rest, ret := .template (decodeSecondary b) } :=
  step_of_request s (.decodeSecondary b) rest

/-- No byte is left to the default of the primary lookup (U13). -/
theorem text_decodePrimary_ne_empty (b : Byte) : (decodePrimary b).text ≠ "" := by
  revert b
  decide

/-- No byte is left to the default of the secondary lookup (U13). -/
theorem text_decodeSecondary_ne_empty (b : Byte) : (decodeSecondary b).text ≠ "" := by
  revert b
  decide

/-- Settles O49: each lookup is one request without another effect, and each table has a text for every byte. -/
theorem tableLookupsArePure : Obligations.TableLookupsArePure := fun s b rest =>
  ⟨step_decodePrimary s b rest, step_decodeSecondary s b rest, text_decodePrimary_ne_empty b,
    text_decodeSecondary_ne_empty b, shape_decodeSecondary b⟩

/-- The stand-alone marker's meaning is the lookup of its byte (R162). -/
theorem exec_prefixCb (s : State) : exec .prefixCb s = .next (s.returns (.template (decodePrimary 0xCB))) := rfl

/-- Settles O21: meaning and request are the same lookup, whose entry is the marker template (D8). -/
theorem escapeMarkerReturnsItsTemplate : Obligations.EscapeMarkerReturnsItsTemplate := fun s rest =>
  ⟨exec_prefixCb s, (step_decodePrimary s 0xCB rest).trans (exec_prefixCb { s with requests := rest }).symm⟩

/-! ## Shapes -/

/-- The placeholder rule of R164, byte by byte. -/
theorem shape_decodePrimary_eq_placeholderShape (b : Byte) :
    (decodePrimary b).shape = placeholderShape (decodePrimary b).text := by
  revert b
  decide

/-- Each member of a list has exactly one shape. -/
theorem sum_length_filter_shape (f : Nat → Shape) (l : List Nat) :
    (l.filter (fun n => f n = .none)).length + (l.filter (fun n => f n = .imm8)).length +
      (l.filter (fun n => f n = .imm16)).length + (l.filter (fun n => f n = .addr16)).length +
      (l.filter (fun n => f n = .rel8)).length = l.length := by
  induction l with
  | nil => rfl
  | cons n l ih =>
    simp only [List.filter_cons, List.length_cons, ← ih]
    cases f n <;> simp <;> omega

/-- The counts by shape cover the 256 bytes of the table. -/
theorem sum_shapeCount :
    shapeCount .none + shapeCount .imm8 + shapeCount .imm16 + shapeCount .addr16 + shapeCount .rel8 = 256 := by
  simp only [shapeCount]
  rw [sum_length_filter_shape fun n => (decodePrimary (BitVec.ofNat 8 n)).shape, List.length_range]

/-- Settles O47: the placeholder rule; the entries with an operand are counted, and all others have none. -/
theorem primaryShapesFollowThePlaceholders : Obligations.PrimaryShapesFollowThePlaceholders := by
  have himm8 : shapeCount .imm8 = 18 := by decide
  have himm16 : shapeCount .imm16 = 4 := by decide
  have haddr16 : shapeCount .addr16 = 13 := by decide
  have hrel8 : shapeCount .rel8 = 7 := by decide
  have hsum := sum_shapeCount
  rw [himm8, himm16, haddr16, hrel8] at hsum
  exact ⟨shape_decodePrimary_eq_placeholderShape, by omega, himm8, himm16, haddr16, hrel8⟩

/-! ## The undefined bytes -/

theorem decodePrimary_eq_undefined_iff (b : Byte) : decodePrimary b = ⟨"????", .none⟩ ↔ b ∈ undefinedBytes := by
  revert b
  decide

/-- Each undefined row is an instruction without operand whose encoding is its byte (R76). -/
theorem encode_undefinedRows : ∀ p ∈ undefinedBytes.zip undefinedRows,
    p.2.1.wellFormed = true ∧ p.2.1 ≠ .prefixCb ∧ encode p.2.1 = [p.1] := by
  decide

/-- Settles O44: the decoder reads each row back from its encoding, which is its byte alone. -/
theorem undefinedBytesAreExactlyTheEleven : Obligations.UndefinedBytesAreExactlyTheEleven := by
  refine ⟨decodePrimary_eq_undefined_iff, rfl, fun p hp rest => ?_, by decide⟩
  obtain ⟨hwf, hmarker, hencode⟩ := encode_undefinedRows p hp
  have hdecode := decodeInvertsEncode p.2.1 rest hwf fun h => absurd h hmarker
  rwa [hencode] at hdecode

/-- The line of a row without operand, for the opcode `b` whose template the instruction traces: the template's text
is the whole body. -/
theorem traces_text {i : Instr} {b : Byte} {text : String} (hexec : ∀ s, exec i s = tracePrimary b .none s)
    (htemplate : decodePrimary b = ⟨text, .none⟩) : Traces i text := by
  have htraces := traces_of_tracePrimary hexec
  rwa [htemplate] at htraces

/-- Settles O12, row by row: each traces the template of its byte, which is the undefined one. -/
theorem undefinedBytesTraceTheirTemplate : Obligations.UndefinedBytesTraceTheirTemplate := by
  refine ⟨rfl, ?_⟩
  simp only [undefinedRows, List.Forall]
  and_intros
  all_goals exact traces_text (fun _ => rfl) rfl

/-! ## Sample words -/

/-- Settles O54: the decoder is run on each word. -/
theorem sampleWordsDecode : Obligations.SampleWordsDecode :=
  ⟨rfl, rfl, rfl, rfl, rfl, rfl, rfl, rfl⟩

end Sys2Proof.Machine
end

section
/-! PROOFS. The statements of the secondary table's family (45_secondary_00_7F.md): every meaning after the escape byte
traces the entry of its second byte, so each family of rows is a run of that table; and the table is regular. -/

open Sys2Proof.Claims

namespace Sys2Proof.Machine

/-! ## The meaning of a secondary byte -/

/-- The meaning of the instruction of a byte after 0xCB is the trace of that byte's template (R180, R311). -/
theorem exec_secondaryInstr (b : Byte) (s : State) : exec (secondaryInstr b) s = traceSecondary b s := by
  obtain ⟨n, hn, rfl⟩ : ∃ n < 256, b = BitVec.ofNat 8 n := ⟨b.toNat, b.isLt, by simp⟩
  interval_cases n <;> rfl

/-- No secondary entry has an operand, so its text is the whole body. -/
theorem traceBody_decodeSecondary (b : Byte) : traceBody (decodeSecondary b) .none = (decodeSecondary b).text := by
  rw [traceBody, shape_decodeSecondary]

/-- Every instruction after the escape byte traces the text of its byte. -/
theorem traces_secondaryInstr (b : Byte) : Traces (secondaryInstr b) (decodeSecondary b).text := by
  intro s
  rw [exec_secondaryInstr, traceSecondary_eq, traceBody_decodeSecondary]
  rfl

/-! ## Runs of the table -/

/-- The row of a byte after 0xCB: its instruction and its text. -/
def secondaryRow (b : Byte) : Instr × String := (secondaryInstr b, (decodeSecondary b).text)

/-- The rows of `count` bytes from `first` on. -/
def secondaryRun (first count : Nat) : List (Instr × String) :=
  (List.range' first count).map fun n => secondaryRow (BitVec.ofNat 8 n)

/-- Whatever the run, its instructions trace their texts. -/
theorem secondaryRun_traces (first count : Nat) : (secondaryRun first count).Forall fun p => Traces p.1 p.2 := by
  rw [secondaryRun, List.forall_map_iff, List.forall_iff_forall_mem]
  exact fun n _ => traces_secondaryInstr (BitVec.ofNat 8 n)

/-- The rotates, shifts and SWAP are the bytes 0x00 to 0x3F. -/
theorem shiftRows_eq_secondaryRun : shiftRows = secondaryRun 0x00 64 := by decide

/-- The BIT rows are the bytes 0x40 to 0x7F. -/
theorem bitRows_eq_secondaryRun : bitRows = secondaryRun 0x40 64 := by decide

/-- Settles O17: the rows are the first 64 of the secondary table, and every run of it traces its texts. -/
theorem shiftRowsTraceTheirText : Obligations.ShiftRowsTraceTheirText := by
  rw [Obligations.ShiftRowsTraceTheirText, shiftRows_eq_secondaryRun]
  exact secondaryRun_traces 0x00 64

/-- Settles O18: the rows are the next 64 of the secondary table. -/
theorem bitRowsTraceTheirText : Obligations.BitRowsTraceTheirText := by
  rw [Obligations.BitRowsTraceTheirText, bitRows_eq_secondaryRun]
  exact secondaryRun_traces 0x40 64

/-! ## The regular structure -/

/-- The first quarter: one of the shift operations on a target (R181 to R183). -/
theorem text_decodeSecondary_shift (b : Byte) : fieldX b = 0 →
    (decodeSecondary b).text = shiftOps.getD (fieldY b) "" ++ " " ++ reg8.getD (fieldZ b) "" := by
  revert b
  decide

/-- The other three quarters: BIT, RES or SET on a bit of a target (R181 to R183). -/
theorem text_decodeSecondary_bit (b : Byte) : fieldX b ≠ 0 →
    (decodeSecondary b).text =
      bitOps.getD (fieldX b) "" ++ " " ++ dec (fieldY b) ++ ", " ++ reg8.getD (fieldZ b) "" := by
  revert b
  decide

/-- Settles O45: the text by its quarter, the shape None throughout. -/
theorem secondaryTableIsRegular : Obligations.SecondaryTableIsRegular := by
  intro b
  by_cases hx : fieldX b = 0
  · rw [if_pos hx]
    exact congrArg₂ Template.mk (text_decodeSecondary_shift b hx) (shape_decodeSecondary b)
  · rw [if_neg hx]
    exact congrArg₂ Template.mk (text_decodeSecondary_bit b hx) (shape_decodeSecondary b)

end Sys2Proof.Machine
end

section
/-! PROOFS. The statements of the trace emitter's family about single instructions (47_trace_emitter.md R302, R303,
R311): the bytes of an instruction determine its line through the two tables, and its meaning changes nothing else. -/

open Sys2Proof.Claims

namespace Sys2Proof

/-- The operand value that an entry's shape reads: `v`, `w` or `d`, beside `Entry.operand`, its bytes. -/
def Entry.value (v : Byte) (w : Word) (d : Int) : Entry → Operand
  | .plain _ => .none
  | .imm8 _ => .imm8 v
  | .imm16 _ => .imm16 w
  | .addr16 _ => .addr16 w
  | .rel8 _ => .rel8 d

end Sys2Proof

namespace Sys2Proof.Machine

/-! ## The meaning of a primary byte -/

/-- The meaning of the instruction that a primary entry makes is the trace of the entry's template with the operand it
was made from; the marker alone is only looked up (R302, R303). -/
theorem exec_instr_primaryEntry {b : Byte} (hb : b ≠ 0xCB) (v : Byte) (w : Word) (d : Int) (s : State) :
    exec ((primaryEntry b).instr v w d) s = tracePrimary b ((primaryEntry b).value v w d) s := by
  obtain ⟨n, hn, rfl⟩ : ∃ n < 256, b = BitVec.ofNat 8 n := ⟨b.toNat, b.isLt, by simp⟩
  have hn203 : n ≠ 203 := by
    rintro rfl
    exact hb rfl
  rcases Nat.lt_or_gt_of_ne hn203 with hlt | hgt <;> interval_cases n <;> rfl

/-- After the escape byte the body is the text of the byte that follows (R303). -/
theorem bodyOf_escape (b1 b2 : Byte) : bodyOf 0xCB b1 b2 = (decodeSecondary b1).text := if_pos rfl

/-- After any other byte the body is that of the byte's template with the operand that its entry reads (R302, R311). -/
theorem bodyOf_primary {b : Byte} (hb : b ≠ 0xCB) (b1 b2 : Byte) :
    bodyOf b b1 b2 =
      traceBody (decodePrimary b) ((primaryEntry b).value b1 (joinBytes b2 b1) (signExtend8 b1)) := by
  have hshape := shape_primaryEntry b
  rw [bodyOf, if_neg hb, traceBody, ← hshape]
  cases primaryEntry b <;>
    simp only [Entry.shape, Entry.value, renderOperand, joinBytes_toNat, signExtend8_eq_toInt]

theorem traces_bodyOf_primary {b : Byte} {e : Entry} (hb : b ≠ 0xCB) (he : primaryEntry b = e) (b1 b2 : Byte) :
    Traces (e.instr b1 (joinBytes b2 b1) (signExtend8 b1)) (bodyOf b b1 b2) := by
  subst he
  rw [bodyOf_primary hb]
  exact traces_of_tracePrimary (exec_instr_primaryEntry hb _ _ _)

/-! ## Bytes and lines -/

/-- An instruction traces the body that the bytes it was decoded from give, in whichever way they decode; bytes that
are not there are not looked at. -/
theorem Decodes.traces {bytes rest : List Byte} {i : Instr} (h : Decodes bytes i rest) (hne : bytes ≠ [0xCB]) :
    Traces i (bodyOf (bytes.getD 0 0) (bytes.getD 1 0) (bytes.getD 2 0)) := by
  cases h with
  | marker => exact absurd rfl hne
  | secondary b rest => exact traces_secondaryInstr b
  | plain _ _ _ hb he | imm8 _ _ _ _ hb he | imm16 _ _ _ _ _ hb he | addr16 _ _ _ _ _ hb he
  | rel8 _ _ _ _ hb he => exact traces_bodyOf_primary hb he _ _

/-- Settles O22: the encoding of an instruction decodes to it, and so gives its line. -/
theorem encodedBytesDetermineTheLine : Obligations.EncodedBytesDetermineTheLine := by
  intro i hwf hi
  exact (decodes_of_decode (roundTrip i hwf)).traces (encode_ne_escape hwf hi)

/-! ## The rows without an operand -/

/-- The body that the bytes of an instruction give through the tables. -/
def encodedBody (i : Instr) : String :=
  bodyOf ((encode i).getD 0 0) ((encode i).getD 1 0) ((encode i).getD 2 0)

/-- Instructions trace the texts that the tables hold for their bytes. -/
theorem rows_trace {rows : List (Instr × String)}
    (h : ∀ p ∈ rows, p.1.wellFormed = true ∧ p.1 ≠ .prefixCb ∧ encodedBody p.1 = p.2) :
    rows.Forall fun p => Traces p.1 p.2 := by
  rw [List.forall_iff_forall_mem]
  intro p hp
  obtain ⟨hwf, hi, htext⟩ := h p hp
  rw [← htext]
  exact encodedBytesDetermineTheLine p.1 hwf hi

/-- Settles O7: the bytes of each row hold its text in the primary table. -/
theorem byteLoadsTraceTheirText : Obligations.ByteLoadsTraceTheirText := rows_trace (by decide)

/-- Settles O8: the bytes of each row hold its text in the primary table. -/
theorem byteArithmeticTracesItsText : Obligations.ByteArithmeticTracesItsText := rows_trace (by decide)

/-- Settles O9: the bytes of each row hold its text in the primary table. -/
theorem wordOperationsTraceTheirText : Obligations.WordOperationsTraceTheirText := rows_trace (by decide)

/-- Settles O11: the bytes of each row hold its text in the primary table. -/
theorem returnsAndRestartsTraceTheirText : Obligations.ReturnsAndRestartsTraceTheirText := rows_trace (by decide)

/-- The RES rows are the bytes 0x80 to 0xBF after the escape byte. -/
theorem resRows_eq_secondaryRun : resRows = secondaryRun 0x80 64 := by decide

/-- The SET rows are the bytes 0xC0 to 0xFF after the escape byte. -/
theorem setRows_eq_secondaryRun : setRows = secondaryRun 0xC0 64 := by decide

/-- Settles O19: the rows are a run of the secondary table, and every run of it traces its texts. -/
theorem resRowsTraceTheirText : Obligations.ResRowsTraceTheirText := by
  rw [Obligations.ResRowsTraceTheirText, resRows_eq_secondaryRun]
  exact secondaryRun_traces 0x80 64

/-- Settles O20: the rows are the last 64 of the secondary table. -/
theorem setRowsTraceTheirText : Obligations.SetRowsTraceTheirText := by
  rw [Obligations.SetRowsTraceTheirText, setRows_eq_secondaryRun]
  exact secondaryRun_traces 0xC0 64

/-! ## The frame of an instruction -/

/-- Settles O23: the marker returns a template, and every other instruction emits one line. -/
theorem instructionsLeaveTheMachineUnchanged : Obligations.InstructionsLeaveTheMachineUnchanged := by
  intro i s t hexec
  by_cases hi : i = .prefixCb
  · subst hi
    rw [exec_prefixCb] at hexec
    cases hexec
    exact ⟨rfl, fun _ => rfl, rfl, rfl, rfl, rfl, rfl, rfl, .inl rfl⟩
  · obtain ⟨body, hbody⟩ := exec_emits_line i hi s
    rw [hbody] at hexec
    cases hexec
    exact ⟨rfl, fun _ => rfl, rfl, rfl, rfl, rfl, rfl, rfl, .inr ⟨_, rfl⟩⟩

end Sys2Proof.Machine
end

section
/-! PROOFS. What gathering the diagnostic fields of a trace call does (47_trace_emitter.md R302, R304 to R309): the
snapshot reads, and the enabled fields for what the bus answers to them. -/

open Sys2Proof.Claims

namespace Sys2Proof.Machine

/-! ## Reads and fields, one lemma per field of the state that a gathering looks at -/

@[simp] theorem afterReads_params (s : State) (l : List Word) : (afterReads s l).params = s.params := rfl
@[simp] theorem afterReads_mem (s : State) (l : List Word) : (afterReads s l).mem = s.mem := rfl
@[simp] theorem afterReads_answers (s : State) (l : List Word) :
    (afterReads s l).answers = s.answers.drop l.length := rfl
@[simp] theorem afterReads_fields (s : State) (l : List Word) : (afterReads s l).fields = s.fields := rfl

/-- `fields <- fields ++ fs` (R302). -/
def State.addFields (s : State) (fs : List String) : State := { s with fields := s.fields ++ fs }

@[simp] theorem State.addFields_regs (s : State) (fs : List String) : (s.addFields fs).regs = s.regs := rfl
@[simp] theorem State.addFields_params (s : State) (fs : List String) : (s.addFields fs).params = s.params := rfl
@[simp] theorem State.addFields_answers (s : State) (fs : List String) : (s.addFields fs).answers = s.answers := rfl
@[simp] theorem State.addFields_fields (s : State) (fs : List String) : (s.addFields fs).fields = s.fields ++ fs := rfl
@[simp] theorem State.afterReads_addFields (s : State) (fs : List String) (l : List Word) :
    afterReads (s.addFields fs) l = (afterReads s l).addFields fs := rfl
@[simp] theorem State.addFields_nil (s : State) : s.addFields [] = s := by simp [State.addFields]
@[simp] theorem State.addFields_addFields (s : State) (fs gs : List String) :
    (s.addFields fs).addFields gs = s.addFields (fs ++ gs) := by simp [State.addFields]

/-- A part of the gathering behind its toggle (R301). -/
theorem State.ite_addFields (s : State) (c : Bool) (fs : List String) :
    (if c then s.addFields fs else s) = s.addFields (if c then fs else []) := by
  cases c <;> simp

/-! ## The snapshots -/

/-- The bytes that the bus answers to reads at the addresses `l`, one after another (R58, R64). -/
def State.answersAt (s : State) : List Word → List Byte
  | [] => []
  | a :: l => s.busAnswer a :: (s.afterRead a).answersAt l

/-- The fields are no part of what the bus sees. -/
theorem State.answersAt_fields (s : State) (fs : List String) (l : List Word) :
    State.answersAt { s with fields := fs } l = s.answersAt l := by
  induction l generalizing s with
  | nil => rfl
  | cons a l ih => exact congrArg (s.busAnswer a :: ·) (ih (s.afterRead a))

@[simp] theorem State.answersAt_addFields (s : State) (fs : List String) (l : List Word) :
    (s.addFields fs).answersAt l = s.answersAt l := s.answersAt_fields _ l

/-- Bytes that are dictated for the reads are what they are answered, whatever the addresses (R64). -/
theorem State.answersAt_dictated {s : State} {l : List Word} {bytes tail : List Byte}
    (hs : s.answers = bytes ++ tail) (hlength : bytes.length = l.length) : s.answersAt l = bytes := by
  induction l generalizing s bytes with
  | nil => exact (List.eq_nil_of_length_eq_zero hlength).symm
  | cons a l ih =>
    obtain ⟨b, bytes, rfl⟩ := List.exists_cons_of_length_eq_add_one hlength
    have hrest : (s.afterRead a).answersAt l = bytes := ih (by simp [hs]) (by simpa using hlength)
    rw [State.answersAt, hrest, State.busAnswer_dictated s a b _ hs]

/-- A snapshot is one read, whose answer is the field (R308). -/
theorem State.addSnapshot_eq_addFields (s : State) (a : Word) :
    s.addSnapshot a = (afterReads s [a]).addFields [hex (s.busAnswer a).toNat] := by
  rw [← afterRead_eq]
  rfl

/-- Snapshots are taken one after another (R309). -/
theorem foldl_addSnapshot_eq_addFields (l : List Word) (s : State) :
    l.foldl State.addSnapshot s = (afterReads s l).addFields ((s.answersAt l).map fun b => hex b.toNat) := by
  induction l generalizing s with
  | nil => simp [State.answersAt]
  | cons a l ih =>
    rw [List.foldl_cons, ih, State.addSnapshot_eq_addFields]
    simp [State.answersAt, afterRead_eq, afterReads_append]

/-- The address of the joypad snapshot, where it is taken (R308). -/
def joypadAddresses (s : State) (o : TraceOptions) : List Word :=
  if o.showJoypadRegister then [s.params.joypAddr] else []

/-- The byte that the joypad snapshot is answered, where it is taken. -/
def joypadByte (s : State) : Byte := s.busAnswer s.params.joypAddr

/-- The bytes that the timer snapshots are answered, where they are taken: the joypad is read before them (D6). -/
def timerBytes (s : State) (o : TraceOptions) : List Byte :=
  (afterReads s (joypadAddresses s o)).answersAt s.params.timerAddrs

/-! The snapshots do not depend on the fields gathered before them. -/

@[simp] theorem snapshotAddresses_addFields (s : State) (fs : List String) (o : TraceOptions) :
    snapshotAddresses (s.addFields fs) o = snapshotAddresses s o := rfl
@[simp] theorem joypadByte_addFields (s : State) (fs : List String) :
    joypadByte (s.addFields fs) = joypadByte s := rfl
@[simp] theorem timerBytes_addFields (s : State) (fs : List String) (o : TraceOptions) :
    timerBytes (s.addFields fs) o = timerBytes s o :=
  State.answersAt_addFields (afterReads s (joypadAddresses s o)) fs _
@[simp] theorem snapshotAddresses_beginFields (s : State) (o : TraceOptions) :
    snapshotAddresses s.beginFields o = snapshotAddresses s o := rfl
@[simp] theorem joypadByte_beginFields (s : State) : joypadByte s.beginFields = joypadByte s := rfl
@[simp] theorem timerBytes_beginFields (s : State) (o : TraceOptions) : timerBytes s.beginFields o = timerBytes s o :=
  State.answersAt_fields (afterReads s (joypadAddresses s o)) [] _

theorem joypadField_eq_addFields (o : TraceOptions) (s : State) :
    joypadField o s =
      (afterReads s (joypadAddresses s o)).addFields
        (if o.showJoypadRegister then [hex (joypadByte s).toNat] else []) := by
  unfold joypadField joypadAddresses
  cases o.showJoypadRegister <;> simp [State.addSnapshot_eq_addFields, joypadByte]

theorem timerFields_eq_addFields (o : TraceOptions) (s : State) :
    timerFields o s =
      (afterReads s (if o.showTimerRegisters then s.params.timerAddrs else [])).addFields
        (if o.showTimerRegisters then (s.answersAt s.params.timerAddrs).map fun b => hex b.toNat else []) := by
  unfold timerFields
  cases o.showTimerRegisters <;> simp [foldl_addSnapshot_eq_addFields]

/-- The joypad before the timers: the snapshot reads in their order, and a field for each (R302). -/
theorem timerFields_joypadField (o : TraceOptions) (s : State) :
    timerFields o (joypadField o s) =
      (afterReads s (snapshotAddresses s o)).addFields
        ((if o.showJoypadRegister then [hex (joypadByte s).toNat] else []) ++
          if o.showTimerRegisters then (timerBytes s o).map fun b => hex b.toNat else []) := by
  have haddresses : snapshotAddresses s o =
      joypadAddresses s o ++ if o.showTimerRegisters then s.params.timerAddrs else [] := rfl
  simp [timerFields_eq_addFields, joypadField_eq_addFields, afterReads_append, haddresses, timerBytes]

/-! ## The diagnostic fields -/

/-- The fields of a trace call in the state `s`, for what the bus answers there (R304 to R309). -/
def gatheredFields (s : State) (o : TraceOptions) (cycles : Cycles) : List String :=
  fieldsOf s o cycles (joypadByte s) (timerBytes s o)

theorem addressField_eq_addFields (o : TraceOptions) (s : State) :
    addressField o s = s.addFields (if o.showAddress then [hex s.regs.pc.toNat] else []) := s.ite_addFields _ [_]

theorem flagsField_eq_addFields (o : TraceOptions) (s : State) :
    flagsField o s = s.addFields (if o.showFlags then [flagText s.regs.af] else []) := by
  have hflags : flagText s.regs.af = flagSummary s.regs := (flagSummary_eq s.regs).symm
  rw [hflags]
  exact s.ite_addFields _ [_]

theorem cyclesField_eq_addFields (o : TraceOptions) (cycles : Cycles) (s : State) :
    cyclesField o cycles s = s.addFields (if o.showCycles then [dec cycles.toNat] else []) := by
  rw [dec_natCast]
  exact s.ite_addFields _ [_]

/-- The computed fields come first and read nothing (R305 to R307). -/
theorem computedFields_eq_addFields (o : TraceOptions) (cycles : Cycles) (s : State) :
    cyclesField o cycles (flagsField o (addressField o s)) =
      s.addFields
        ((if o.showAddress then [hex s.regs.pc.toNat] else []) ++
          (if o.showFlags then [flagText s.regs.af] else []) ++ if o.showCycles then [dec cycles.toNat] else []) := by
  simp [addressField_eq_addFields, flagsField_eq_addFields, cyclesField_eq_addFields]

/-- Gathering the fields makes the snapshot reads, and leaves the enabled fields in their order (R302, R304). -/
theorem gatherFields_eq_addFields (o : TraceOptions) (cycles : Cycles) (s : State) :
    gatherFields o cycles s =
      (afterReads s.beginFields (snapshotAddresses s o)).addFields (gatheredFields s o cycles) := by
  rw [gatherFields, computedFields_eq_addFields, timerFields_joypadField]
  simp [gatheredFields, fieldsOf]

theorem gatherFields_fields (o : TraceOptions) (cycles : Cycles) (s : State) :
    (gatherFields o cycles s).fields = gatheredFields s o cycles := by
  simp [gatherFields_eq_addFields]

theorem gatherFields_answers (o : TraceOptions) (cycles : Cycles) (s : State) :
    (gatherFields o cycles s).answers = s.answers.drop (snapshotAddresses s o).length := by
  simp [gatherFields_eq_addFields]

theorem gatherFields_regs (o : TraceOptions) (cycles : Cycles) (s : State) :
    (gatherFields o cycles s).regs = s.regs := (gatherFields_onlyReads o cycles s).regs

theorem gatherFields_mem (o : TraceOptions) (cycles : Cycles) (s : State) :
    (gatherFields o cycles s).mem = s.mem := (gatherFields_onlyReads o cycles s).mem

/-- The fields are gone when the line is emitted, and the reads are left (R28). -/
theorem gatherFields_emitLine (o : TraceOptions) (cycles : Cycles) (s : State) (l : List Word) (line : String) :
    (afterReads (gatherFields o cycles s) l).emitLine line =
      (afterReads s (snapshotAddresses s o ++ l)).emitLine line := by
  rw [gatherFields_eq_addFields, ← afterReads_append]
  rfl

end Sys2Proof.Machine
end

section
/-! PROOFS. The statements of the trace emitter's family about a whole trace call (47_trace_emitter.md R302 to R314):
its reads, its line and nothing else, as one function of what the bus answers. -/

open Sys2Proof.Claims

namespace Sys2Proof.Machine

/-! ## The bytes of the instruction -/

/-- The byte that a read at PC is answered. -/
def opcodeByte (s : State) : Byte := s.busAnswer s.regs.pc

/-- The byte that a read at PC+1 is answered after it. -/
def secondByte (s : State) : Byte := (afterReads s [s.regs.pc]).busAnswer (s.regs.pc + 1)

/-- The byte that a read at PC+2 is answered after both. -/
def thirdByte (s : State) : Byte := (afterReads s [s.regs.pc, s.regs.pc + 1]).busAnswer (s.regs.pc + 2)

theorem opcodeByte_dictated {s : State} {b0 : Byte} {l : List Byte} (h : s.answers = b0 :: l) : opcodeByte s = b0 :=
  State.busAnswer_dictated s _ b0 l h

theorem secondByte_dictated {s : State} {b0 b1 : Byte} {l : List Byte} (h : s.answers = b0 :: b1 :: l) :
    secondByte s = b1 :=
  State.busAnswer_dictated _ _ b1 l (by simp [h])

theorem thirdByte_dictated {s : State} {b0 b1 b2 : Byte} {l : List Byte} (h : s.answers = b0 :: b1 :: b2 :: l) :
    thirdByte s = b2 :=
  State.busAnswer_dictated _ _ b2 l (by simp [h])

/-- The text of the instruction at PC, from the bytes answered there. -/
def bodyAtPc (s : State) : String := bodyOf (opcodeByte s) (secondByte s) (thirdByte s)

/-- The instruction read at PC traces that text (R302, R303). -/
theorem fetchInstr_traces (s : State) : Traces (fetchInstr s).1 (bodyAtPc s) := by
  obtain ⟨i, tail, h⟩ := exists_decodes_threeBytes (opcodeByte s) (secondByte s) (thirdByte s) []
  have hfetch : (fetchInstr s).1 = i := fetchInstr_fst s _ _ _ i tail rfl rfl rfl h.decode_eq
  rw [hfetch]
  exact h.traces (by simp)

/-! ## The whole call -/

theorem joinWith_eq_intercalate (sep : String) : ∀ l : List String, joinWith sep l = sep.intercalate l
  | [] => String.intercalate_nil.symm
  | [_] => String.intercalate_singleton.symm
  | f :: g :: l => by rw [joinWith, joinWith_eq_intercalate sep (g :: l), String.intercalate_cons_cons]

/-- The layout of a line in the statements' terms: the gutter stands only behind fields (R310). -/
theorem traceLine_eq_lineOf (s : State) (body : String) : traceLine s body = lineOf s s.fields body := by
  unfold traceLine lineOf diagnosticPart
  rw [joinWith_eq_intercalate]
  cases s.fields <;> rfl

/-- Of the state, a line shows the gutter alone. -/
theorem lineOf_of_params {s t : State} (h : t.params = s.params) (fields : List String) (body : String) :
    lineOf t fields body = lineOf s fields body := by
  unfold lineOf
  rw [h]

/-- The addresses that a trace call reads: the snapshots, then the instruction's bytes (R302, R314). -/
def tracedAddresses (s : State) (o : TraceOptions) (cycles : Cycles) : List Word :=
  snapshotAddresses s o ++ addressesFrom s.regs.pc (instrLength (opcodeByte (gatherFields o cycles s)))

/-- The line that a trace call emits: the instruction is read after the snapshots. -/
def tracedLine (s : State) (o : TraceOptions) (cycles : Cycles) : String :=
  lineOf s (gatheredFields s o cycles) (bodyAtPc (gatherFields o cycles s))

/-- A trace call makes its reads, emits its line and does nothing else (R302, R312, R313). -/
theorem opFormatLine_eq_emitLine (o : TraceOptions) (cycles : Cycles) (s : State) :
    opFormatLine o cycles s =
      .next ((afterReads s (tracedAddresses s o cycles)).emitLine (tracedLine s o cycles)) := by
  have hparams := ((gatherFields_onlyReads o cycles s).trans (fetchInstr_onlyReads _)).params
  have hline : traceLine (fetchInstr (gatherFields o cycles s)).2 (bodyAtPc (gatherFields o cycles s)) =
      tracedLine s o cycles := by
    rw [traceLine_eq_lineOf, fetchInstr_fields, gatherFields_fields, lineOf_of_params hparams, tracedLine]
  have hreads : (fetchInstr (gatherFields o cycles s)).2 = afterReads (gatherFields o cycles s)
      (addressesFrom s.regs.pc (instrLength (opcodeByte (gatherFields o cycles s)))) := by
    rw [fetchInstr_snd, gatherFields_regs, opcodeByte, gatherFields_regs]
  rw [opFormatLine_eq, fetchInstr_traces, hline, hreads]
  exact congrArg Host.Outcome.next (gatherFields_emitLine o cycles s _ _)

/-- A step that serves a trace call. -/
theorem step_formatLine (s : State) (o : TraceOptions) (cycles : Cycles) (rest : List Request) :
    step { s with requests := .formatLine o cycles :: rest } =
      .next { s with
        requests := rest
        reads := s.reads ++ tracedAddresses { s with requests := rest } o cycles
        answers := s.answers.drop (tracedAddresses { s with requests := rest } o cycles).length
        sink := s.sink ++ [tracedLine { s with requests := rest } o cycles]
        ret := .text (tracedLine { s with requests := rest } o cycles)
        fields := [] } :=
  (step_of_request s _ rest).trans (opFormatLine_eq_emitLine o cycles _)

/-- Settles O25: the reads and the line of the call are all that it leaves. -/
theorem traceCallOnlyReadsAndEmits : Obligations.TraceCallOnlyReadsAndEmits := fun s o cycles rest =>
  ⟨_, _, step_formatLine s o cycles rest⟩

/-! ## The number of reads -/

theorem length_addressesFrom_le (pc : Word) (n : Nat) : (addressesFrom pc n).length ≤ 3 := by
  simp [addressesFrom]

theorem length_snapshotAddresses_le (s : State) (o : TraceOptions) :
    (snapshotAddresses s o).length ≤ 1 + s.params.timerAddrs.length := by
  unfold snapshotAddresses
  cases o.showJoypadRegister <;> cases o.showTimerRegisters <;> simp

/-- Settles O27: by the reads of the whole call, snapshots first. -/
theorem traceCallReadsAreBounded : Obligations.TraceCallReadsAreBounded := by
  intro s o cycles rest
  have hpc := congrArg RegFile.pc (gatherFields_regs o cycles { s with requests := rest })
  have hsnapshots := length_snapshotAddresses_le s o
  have hinstruction := length_addressesFrom_le s.regs.pc
    (instrLength (opcodeByte (gatherFields o cycles { s with requests := rest })))
  refine ⟨_, _, step_formatLine s o cycles rest, congrArg _ hpc, (List.append_assoc ..).symm, ?_⟩
  change (s.reads ++ (snapshotAddresses s o ++ addressesFrom s.regs.pc _)).length ≤ _
  rw [List.length_append, List.length_append]
  omega

/-! ## Dictated bytes -/

/-- The timers are answered the dictated bytes that the joypad leaves (D6). -/
theorem timerBytes_dictated {s : State} {o : TraceOptions} {j : Byte} {ts tail : List Byte}
    (hs : s.answers = snapshotBytes o j ts ++ tail) (ht : o.showTimerRegisters = true)
    (hlength : ts.length = s.params.timerAddrs.length) : timerBytes s o = ts := by
  have hrest : (afterReads s (joypadAddresses s o)).answers = ts ++ tail := by
    unfold joypadAddresses
    cases hj : o.showJoypadRegister <;> simp [hs, snapshotBytes, hj, ht]
  exact State.answersAt_dictated hrest hlength

/-- Where the snapshot bytes are dictated, the fields are those of these bytes (R304 to R309). -/
theorem gatheredFields_dictated {s : State} {o : TraceOptions} (cycles : Cycles) {j : Byte} {ts tail : List Byte}
    (hs : s.answers = snapshotBytes o j ts ++ tail) (hlength : ts.length = s.params.timerAddrs.length) :
    gatheredFields s o cycles = fieldsOf s o cycles j ts := by
  have hjoypad (h : o.showJoypadRegister = true) : joypadByte s = j :=
    State.busAnswer_dictated s _ j _ (by rw [hs, snapshotBytes, if_pos h]; rfl)
  have htimers (h : o.showTimerRegisters = true) : timerBytes s o = ts := timerBytes_dictated hs h hlength
  simp +contextual only [gatheredFields, fieldsOf, hjoypad, htimers]

/-- The snapshots take one dictated byte for each of their reads. -/
theorem length_snapshotBytes (s : State) (o : TraceOptions) (j : Byte) {ts : List Byte}
    (hlength : ts.length = s.params.timerAddrs.length) :
    (snapshotBytes o j ts).length = (snapshotAddresses s o).length := by
  unfold snapshotAddresses snapshotBytes
  cases o.showJoypadRegister <;> cases o.showTimerRegisters <;> simp [hlength]

theorem instrLength_le (b : Byte) : instrLength b ≤ 3 := by
  unfold instrLength
  split
  · decide
  · cases (primaryEntry b).shape <;> decide

theorem length_addressesFrom (pc : Word) {n : Nat} (hn : n ≤ 3) : (addressesFrom pc n).length = n := by
  simpa [addressesFrom] using hn

theorem gatherFields_answers_dictated {s : State} {o : TraceOptions} (cycles : Cycles) {j : Byte} {ts l : List Byte}
    (hs : s.answers = snapshotBytes o j ts ++ l) (hlength : ts.length = s.params.timerAddrs.length) :
    (gatherFields o cycles s).answers = l := by
  rw [gatherFields_answers, hs, ← length_snapshotBytes s o j hlength]
  exact List.drop_left

section
variable {s : State} {o : TraceOptions} (cycles : Cycles) {j : Byte} {ts : List Byte} {b0 b1 b2 : Byte}
  {tail : List Byte} (hs : s.answers = snapshotBytes o j ts ++ b0 :: b1 :: b2 :: tail)
  (hlength : ts.length = s.params.timerAddrs.length)
include hs hlength

theorem tracedAddresses_dictated :
    tracedAddresses s o cycles = snapshotAddresses s o ++ addressesFrom s.regs.pc (instrLength b0) := by
  rw [tracedAddresses, opcodeByte_dictated (gatherFields_answers_dictated cycles hs hlength)]

theorem tracedLine_dictated :
    tracedLine s o cycles = lineOf s (fieldsOf s o cycles j ts) (bodyOf b0 b1 b2) := by
  have hanswers := gatherFields_answers_dictated cycles hs hlength
  rw [tracedLine, gatheredFields_dictated cycles hs hlength, bodyAtPc, opcodeByte_dictated hanswers,
    secondByte_dictated hanswers, thirdByte_dictated hanswers]

/-- Of the dictated bytes the call takes those of the snapshots and those of the instruction. -/
theorem answers_drop_tracedAddresses :
    s.answers.drop (tracedAddresses s o cycles).length = (b0 :: b1 :: b2 :: tail).drop (instrLength b0) := by
  rw [tracedAddresses_dictated cycles hs hlength, List.length_append, length_addressesFrom _ (instrLength_le b0),
    ← length_snapshotBytes s o j hlength, ← List.drop_drop, hs, List.drop_left]

/-- The whole call for dictated bytes: those of the snapshots in the fields, those of the instruction in the body. -/
theorem opFormatLine_dictated :
    opFormatLine o cycles s =
      .next { s with
        answers := (b0 :: b1 :: b2 :: tail).drop (instrLength b0)
        reads := s.reads ++ snapshotAddresses s o ++ addressesFrom s.regs.pc (instrLength b0)
        sink := s.sink ++ [lineOf s (fieldsOf s o cycles j ts) (bodyOf b0 b1 b2)]
        ret := .text (lineOf s (fieldsOf s o cycles j ts) (bodyOf b0 b1 b2))
        fields := [] } := by
  rw [opFormatLine_eq_emitLine, tracedLine_dictated cycles hs hlength, afterReads,
    answers_drop_tracedAddresses cycles hs hlength, tracedAddresses_dictated cycles hs hlength, ← List.append_assoc]
  rfl

end

/-- Settles O24: the request is served by a trace call, in a state with these bytes dictated. -/
theorem traceCallComputesTheLine : Obligations.TraceCallComputesTheLine := by
  intro s o cycles rest j ts b0 b1 b2 tail hlength
  have hserve := step_of_request { s with answers := snapshotBytes o j ts ++ b0 :: b1 :: b2 :: tail }
    (.formatLine o cycles) rest
  exact hserve.trans (opFormatLine_dictated cycles rfl hlength)

/-! ## The escape byte -/

theorem text_decodeSecondary_ne_marker (b : Byte) : (decodeSecondary b).text ≠ "PREFIX CB" := by
  revert b
  decide

/-- Settles O28: with every toggle off the first dictated byte is the opcode, and after 0xCB the second gives the
text. -/
theorem escapeResolvesThroughTheSecondaryTable : Obligations.EscapeResolvesThroughTheSecondaryTable := by
  intro s cycles rest b tail
  set u : State := { s with requests := rest, answers := 0xCB :: b :: tail } with hu
  have hopcode : opcodeByte (gatherFields .off cycles u) = 0xCB := opcodeByte_dictated rfl
  have hsecond : secondByte (gatherFields .off cycles u) = b := secondByte_dictated rfl
  have haddresses : tracedAddresses u .off cycles = [s.regs.pc, s.regs.pc + 1] := by
    rw [tracedAddresses, hopcode]
    rfl
  have hline : tracedLine u .off cycles = (decodeSecondary b).text ++ "\n" := by
    rw [tracedLine, bodyAtPc, hopcode, hsecond, bodyOf_escape]
    exact congrArg (· ++ "\n") String.empty_append
  have hstep := step_formatLine { s with answers := 0xCB :: b :: tail } .off cycles rest
  rw [← hu, haddresses, hline] at hstep
  exact ⟨hstep, text_decodeSecondary_ne_marker b⟩

/-! ## Listed bytes -/

/-- Settles O5: with nothing dictated every read is answered the byte listed at its address, so the fetch reads `i`,
and its reads are the addresses of the bytes that encode `i`. -/
theorem stepRunsTheDecodedInstruction : Obligations.StepRunsTheDecodedInstruction := by
  intro s o cycles rest b0 b1 b2 i tail hanswers hb0 hb1 hb2 hdecode
  set g := gatherFields o cycles { s with requests := rest } with hg
  have hpc : g.regs.pc = s.regs.pc := congrArg RegFile.pc (gatherFields_regs ..)
  have hlisted (l : List Word) {a : Word} {b : Byte} (hb : s.mem.get? a.toNat = some b) :
      (afterReads g l).busAnswer a = b := by
    refine State.busAnswer_listed _ a b ?_ ?_
    · simp [hg, gatherFields_answers, hanswers]
    · rwa [afterReads_mem, hg, gatherFields_mem]
  have hopcode : g.busAnswer g.regs.pc = b0 := by simpa [hpc] using hlisted [] hb0
  have hinstr : (fetchInstr g).1 = i :=
    fetchInstr_fst g b0 b1 b2 i tail hopcode (hpc ▸ hlisted _ hb1) (hpc ▸ hlisted _ hb2) hdecode
  have hlength : (encode i).length = instrLength b0 := (firstByteGivesTheLength b0 b1 [b2] tail i hdecode).2
  have hreads : (fetchInstr g).2 = afterReads g (addressesFrom s.regs.pc (encode i).length) := by
    rw [fetchInstr_snd, hopcode, hpc, hlength]
  calc step { s with requests := .formatLine o cycles :: rest }
      = exec (fetchInstr g).1 (fetchInstr g).2 := step_of_request s _ rest
    _ = _ := by rw [hinstr, hreads]

end Sys2Proof.Machine
end

section
/-! PROOFS. The one newline of a trace line (47_trace_emitter.md R312): none stands in a field, the gutter or a body. -/

open Sys2Proof.Claims

namespace Sys2Proof.Machine

/-- No newline stands in the text. -/
abbrev NewlineFree (t : String) : Prop := '\n' ∉ t.toList

theorem NewlineFree.append {t u : String} (ht : NewlineFree t) (hu : NewlineFree u) : NewlineFree (t ++ u) := by
  rw [NewlineFree, String.toList_append, List.mem_append]
  exact not_or_intro ht hu

theorem NewlineFree.intercalate {sep : String} (hsep : NewlineFree sep) {l : List String}
    (hl : ∀ t ∈ l, NewlineFree t) : NewlineFree (sep.intercalate l) := by
  induction l with
  | nil => simp [NewlineFree]
  | cons f l ih =>
    have hrest : NewlineFree (sep.intercalate l) := ih fun t ht => hl t (.tail _ ht)
    have hf : NewlineFree f := hl f (.head _)
    cases l with
    | nil => rwa [String.intercalate_singleton]
    | cons g l =>
      rw [String.intercalate_cons_cons]
      exact (hf.append hsep).append hrest

theorem digitChar_ne_newline : ∀ d < 16, digitChar d ≠ '\n' := by decide

theorem newlineFree_digits {base : Nat} (hbase : 1 < base) (hle : base ≤ 16) (n : Nat) :
    NewlineFree (String.ofList (digits base n)) := by
  rw [NewlineFree, String.toList_ofList, digits_eq_map hbase, List.mem_map]
  rintro ⟨d, hd, hchar⟩
  exact digitChar_ne_newline d ((digitValues_lt hbase n d hd).trans_le hle) hchar

theorem newlineFree_hex (n : Nat) : NewlineFree (hex n) :=
  .append (by decide) (newlineFree_digits (by decide) (by decide) n)

theorem newlineFree_dec (v : Int) : NewlineFree (dec v) := by
  rw [dec_eq_sign_append]
  refine .append ?_ (newlineFree_digits (by decide) (by decide) _)
  split <;> decide

theorem newlineFree_flagText (af : Word) : NewlineFree (flagText af) := by
  rw [NewlineFree, flagText, String.toList_ofList, List.mem_map]
  rintro ⟨k, -, hchar⟩
  split at hchar <;> cases hchar

theorem newlineFree_ite (c : Bool) {l : List String} (h : ∀ f ∈ l, NewlineFree f) :
    ∀ f ∈ (if c then l else []), NewlineFree f := by
  cases c
  · exact List.forall_mem_nil _
  · exact h

/-- Every field is a number or the flags. -/
theorem newlineFree_fieldsOf (s : State) (o : TraceOptions) (cycles : Cycles) (j : Byte) (ts : List Byte) :
    ∀ f ∈ fieldsOf s o cycles j ts, NewlineFree f := by
  simp only [fieldsOf, List.forall_mem_append]
  and_intros
  · exact newlineFree_ite _ (List.forall_mem_singleton.mpr (newlineFree_hex _))
  · exact newlineFree_ite _ (List.forall_mem_singleton.mpr (newlineFree_flagText _))
  · exact newlineFree_ite _ (List.forall_mem_singleton.mpr (newlineFree_dec _))
  · exact newlineFree_ite _ (List.forall_mem_singleton.mpr (newlineFree_hex _))
  · exact newlineFree_ite _ (List.forall_mem_map.mpr fun _ _ => newlineFree_hex _)

theorem newlineFree_decodePrimary (b : Byte) : NewlineFree (decodePrimary b).text := by
  revert b
  decide

theorem newlineFree_getD {l : List String} (h : ∀ t ∈ l, NewlineFree t) (n : Nat) : NewlineFree (l.getD n "") := by
  rw [List.getD_eq_getElem?_getD]
  cases hn : l[n]? with
  | none => exact (by decide : NewlineFree "")
  | some t => exact h t (List.mem_of_getElem? hn)

/-- The names that the secondary texts are made of (R182, R183). -/
theorem newlineFree_names : (∀ t ∈ reg8, NewlineFree t) ∧ (∀ t ∈ shiftOps, NewlineFree t) ∧
    ∀ t ∈ bitOps, NewlineFree t := by decide

theorem newlineFree_decodeSecondary (b : Byte) : NewlineFree (decodeSecondary b).text := by
  obtain ⟨htarget, hshift, hbit⟩ := newlineFree_names
  by_cases hx : fieldX b = 0
  · rw [text_decodeSecondary_shift b hx]
    exact ((newlineFree_getD hshift _).append (by decide)).append (newlineFree_getD htarget _)
  · rw [text_decodeSecondary_bit b hx]
    exact ((((newlineFree_getD hbit _).append (by decide)).append (newlineFree_dec _)).append (by decide)).append
      (newlineFree_getD htarget _)

/-- Every body is a text of the tables, with a number behind it where the shape has an operand (R311). -/
theorem newlineFree_bodyOf (b0 b1 b2 : Byte) : NewlineFree (bodyOf b0 b1 b2) := by
  have htext := (newlineFree_decodePrimary b0).append (u := " ") (by decide)
  unfold bodyOf
  split
  · exact newlineFree_decodeSecondary b1
  · split
    · exact newlineFree_decodePrimary b0
    · exact htext.append (newlineFree_hex _)
    · exact htext.append (newlineFree_hex _)
    · exact htext.append (newlineFree_hex _)
    · exact htext.append (newlineFree_dec _)

theorem newlineFree_gutter {p : Params} (h : p.wf = true) : NewlineFree p.gutter := by
  obtain ⟨hgutter, -⟩ := Bool.and_eq_true_iff.mp h
  intro hmem
  simpa using List.all_eq_true.mp hgutter _ hmem

/-- What stands before the newline of a line holds none (D23). -/
theorem lineOf_newlineFree_append {s : State} (h : s.params.wf = true) {fields : List String}
    (hfields : ∀ f ∈ fields, NewlineFree f) {body : String} (hbody : NewlineFree body) :
    ∃ start, NewlineFree start ∧ lineOf s fields body = start ++ "\n" := by
  refine ⟨_, ?_, rfl⟩
  refine .append ?_ hbody
  cases fields with
  | nil => exact (by decide : NewlineFree "")
  | cons f fs => exact .append (.intercalate (by decide) hfields) (newlineFree_gutter h)

theorem newlineFree_append_newline {t : String} (h : NewlineFree t) :
    (t ++ "\n").toList.getLast? = some '\n' ∧ (t ++ "\n").toList.count '\n' = 1 := by
  have hcount : t.toList.count '\n' = 0 := List.count_eq_zero.mpr h
  simp [hcount]

/-- Settles O26: fields, gutter and body hold no newline, and one is put behind them. -/
theorem traceLineHoldsOneNewline : Obligations.TraceLineHoldsOneNewline := by
  intro s o cycles rest hparams
  obtain ⟨start, hstart, hline⟩ := lineOf_newlineFree_append (s := { s with requests := rest }) hparams
    (newlineFree_fieldsOf _ o cycles _ _) (newlineFree_bodyOf _ _ _)
  have hnewline := newlineFree_append_newline hstart
  rw [← hline] at hnewline
  exact ⟨_, _, step_formatLine s o cycles rest, rfl, hnewline⟩

end Sys2Proof.Machine
end

section
/-! PROOFS. The statements of the exceptions family (60_exceptions.md): every step completes, HALT and STOP trace as any
other instruction does, and no step reports or drops what is recorded. -/

open Sys2Proof.Claims

namespace Sys2Proof.Machine

/-! ## HALT, STOP and their neighbours -/

/-- Settles O10: the bytes of each row hold its text in the primary table, those of HALT and STOP too (R411). -/
theorem accumulatorAndControlTraceTheirText : Obligations.AccumulatorAndControlTraceTheirText := rows_trace (by decide)

/-! ## Completion -/

theorem step_of_requests_nil {s : State} (h : s.requests = []) : step s = .next s := by
  rw [step, h]

theorem step_of_requests_cons {s : State} {r : Request} {rest : List Request} (h : s.requests = r :: rest) :
    step s = serve r { s with requests := rest } := by
  rw [step, h]

/-- Settles O56: an idle step completes, and every request is served. -/
theorem everyStepCompletes : Obligations.EveryStepCompletes := by
  intro s
  cases hq : s.requests with
  | nil => exact ⟨s, step_of_requests_nil hq⟩
  | cons r rest =>
    obtain ⟨t, hserve, -⟩ := serve_effect r { s with requests := rest }
    exact ⟨t, (step_of_requests_cons hq).trans hserve⟩

/-! ## The records -/

/-- No request calls a reporting sink (D31). -/
theorem Effect.reports_eq {s t : State} {r : Request} (h : Effect s r t) : t.reports = s.reports := by
  cases h with
  | answers u v _ hu _ => exact hu.reports
  | traces u line _ hu => exact hu.reports
  | writes f _ _ => rfl
  | stores a v _ => rfl

theorem Effect.params_eq {s t : State} {r : Request} (h : Effect s r t) : t.params = s.params := by
  cases h with
  | answers u v _ hu _ => exact hu.params
  | traces u line _ hu => exact hu.params
  | writes f _ _ => rfl
  | stores a v _ => rfl

/-- Lines are only ever added to the sink, by a trace call. -/
theorem Effect.sink_prefix {s t : State} {r : Request} (h : Effect s r t) : s.sink <+: t.sink := by
  cases h with
  | answers u v _ hu _ => rw [State.returns_sink, hu.sink]
  | traces u line _ hu =>
    rw [State.emitLine_sink, hu.sink]
    exact List.prefix_append s.sink [line]
  | writes f _ _ => exact List.prefix_rfl
  | stores a v _ => exact List.prefix_rfl

/-- Reads are only ever added to those made, by the operand readers and the trace call. -/
theorem reads_prefix_of_serve {r : Request} {s t : State} (h : serve r s = .next t) : s.reads <+: t.reads := by
  cases r with
  | formatLine o cycles =>
    cases (opFormatLine_eq_emitLine o cycles s).symm.trans h
    exact List.prefix_append s.reads _
  | readImmediate16 | readAddress16 =>
    cases (opReadImmediate16_eq s).symm.trans h
    exact List.prefix_append s.reads _
  | readImmediate8 | readSignedRelative8 =>
    cases h
    exact List.prefix_append s.reads _
  | get16 | set16 | getHigh | setHigh | getLow | setLow | getRunning | setRunning | setFlag | getFlag | renderOperand
  | decodePrimary | decodeSecondary | construct | busStore =>
    cases h
    exact List.prefix_rfl

/-- Settles O59: an idle step changes nothing, and a served request keeps the records or adds to them. -/
theorem noStepReportsOrForgets : Obligations.NoStepReportsOrForgets := by
  intro s t hstep
  cases hq : s.requests with
  | nil =>
    cases (step_of_requests_nil hq).symm.trans hstep
    exact ⟨rfl, rfl, List.prefix_rfl, List.prefix_rfl⟩
  | cons r rest =>
    rw [step_of_requests_cons hq] at hstep
    have heffect := effect_of_serve hstep
    have hreads : s.reads <+: t.reads := reads_prefix_of_serve (s := { s with requests := rest }) hstep
    exact ⟨heffect.reports_eq, heffect.params_eq, hreads, heffect.sink_prefix⟩

end Sys2Proof.Machine
end

section
/-! PROOFS. The statements of the reset and hazards family (70_reset_and_hazards.md): what construction resets, and
that the first trace call after it reads the instruction at 0x0100 (R430, R432). -/

open Sys2Proof.Claims

namespace Sys2Proof.Machine

/-! ## Construction -/

/-- Settles O2: the request is served by `RegFile.reset`. -/
theorem constructionResetsTheRegisterFile : Obligations.ConstructionResetsTheRegisterFile := fun s rest =>
  step_of_request s .construct rest

/-! ## A trace call without snapshots -/

section
variable (s : State) (a f c : Bool) (cycles : Cycles)

/-- The instruction's reads are then the only ones, the one at PC first (R302). -/
theorem tracedAddresses_noSnapshots :
    tracedAddresses s ⟨a, f, c, false, false⟩ cycles = addressesFrom s.regs.pc (instrLength (opcodeByte s)) := by
  obtain ⟨fs, hgather⟩ := gatherFields_noSnapshots a f c cycles s
  rw [tracedAddresses, hgather]
  rfl

/-- No snapshot byte is shown, and the instruction's bytes are those of the state before the call. -/
theorem tracedLine_noSnapshots :
    tracedLine s ⟨a, f, c, false, false⟩ cycles =
      lineOf s (fieldsOf s ⟨a, f, c, false, false⟩ cycles 0 []) (bodyAtPc s) := by
  obtain ⟨fs, hgather⟩ := gatherFields_noSnapshots a f c cycles s
  rw [tracedLine, hgather]
  rfl

end

/-! ## The instruction at PC -/

/-- The three bytes from PC, as the bus answers them or as they are dictated (R64). -/
theorem bytesAtPc_of_answers {s : State} {b0 b1 b2 : Byte}
    (h : s.busAnswer s.regs.pc = b0 ∧ (afterReads s [s.regs.pc]).busAnswer (s.regs.pc + 1) = b1 ∧
        (afterReads s [s.regs.pc, s.regs.pc + 1]).busAnswer (s.regs.pc + 2) = b2 ∨
      ∃ tail, s.answers = b0 :: b1 :: b2 :: tail) :
    opcodeByte s = b0 ∧ secondByte s = b1 ∧ thirdByte s = b2 := by
  obtain hbus | ⟨tail, hdictated⟩ := h
  · exact hbus
  · exact ⟨opcodeByte_dictated hdictated, secondByte_dictated hdictated, thirdByte_dictated hdictated⟩

theorem instrLength_pos (b : Byte) : 0 < instrLength b := by
  unfold instrLength
  split
  · exact Nat.two_pos
  · exact Nat.lt_add_right _ Nat.one_pos

theorem head?_addressesFrom (pc : Word) {n : Nat} (hn : 0 < n) : (addressesFrom pc n).head? = some pc := by
  rw [addressesFrom, List.head?_take, if_neg hn.ne']
  rfl

/-- Settles O4: with no snapshot the bytes at PC are all that is read, and reset leaves PC at 0x0100. -/
theorem firstTraceReadsTheEntryPoint : Obligations.FirstTraceReadsTheEntryPoint := by
  intro s bc a f c cycles rest b0 b1 b2 hregs hbytes
  have hpc : s.regs.pc = 0x0100 := congrArg RegFile.pc hregs
  obtain ⟨hopcode, hsecond, hthird⟩ := bytesAtPc_of_answers (s := s) (by rw [hpc]; exact hbytes)
  have haddresses : tracedAddresses { s with requests := rest } ⟨a, f, c, false, false⟩ cycles =
      addressesFrom 0x0100 (instrLength b0) := by
    rw [← hpc, ← hopcode]
    exact tracedAddresses_noSnapshots ..
  have hline : tracedLine { s with requests := rest } ⟨a, f, c, false, false⟩ cycles =
      lineOf s (fieldsOf s ⟨a, f, c, false, false⟩ cycles 0 []) (bodyOf b0 b1 b2) := by
    rw [← hopcode, ← hsecond, ← hthird]
    exact tracedLine_noSnapshots ..
  refine ⟨head?_addressesFrom _ (instrLength_pos b0), ?_⟩
  rw [step_formatLine, haddresses, hline, length_addressesFrom _ (instrLength_le b0), ← hregs]

end Sys2Proof.Machine
end
